-- ==== Sys2Proof/Word.lean ====
section
/-! DEFINITION. The word types of the block: 00_scope.md R9 (REG_BITS, ADDR_BITS, VGA_LOCAL_BITS, TIME_BITS) and R12. -/

namespace Sys2Proof

/-- One lane of a register, an RMA port byte, a VGA port byte. -/
abbrev Byte := BitVec 8

/-- The value of a 16-bit MMIO access. -/
abbrev Half := BitVec 16

/-- A register: REG_BITS = 32 (R9). -/
abbrev Word := BitVec 32

/-- A byte address of the MMIO window: ADDR_BITS = 24 (R9). -/
abbrev Addr := BitVec 24

/-- A port number of the VGA collaborator: VGA_LOCAL_BITS = 10 (R9). -/
abbrev VgaPort := BitVec 10

/-- Exact rational numbers (R12): frequencies, periods, elapsed host time. -/
abbrev Q := Rat

end Sys2Proof
end

