-- ==== Sys2Proof/Config.lean ====
section
/-! DEFINITION. The names the configuration is written in, the configuration itself (00_scope.md R10), the four OPEN
parameters and the free value of a collaborator's answer, both opaque. The spec's defaults are in Machine/Params.lean. -/

namespace Sys2Proof

/-- The two frequency synthesizers: pixel clock and memory clock (R31, GEN_COUNT of R9). -/
inductive Gen where
  | vclk
  | mclk
deriving DecidableEq, Repr, Inhabited

/-- The five in-scope interrupt pairs (R26), in the order of the RAISE_INTR source codes (R63). -/
inductive PairSource where
  | pme
  | pfifo
  | pvideo
  | ptimer
  | pbus
deriving DecidableEq, Repr, Inhabited

/-- The eight interrupt sources, in the evaluation order of R122. -/
inductive IrqSource where
  | mediaport
  | fifo
  | graphics0
  | graphics1
  | video
  | timer
  | bus
  | software
deriving DecidableEq, Repr, Inhabited

/-- The in-scope subsystems, the owners of registers (R75). -/
inductive Subsys where
  | pmc
  | pbus
  | pfifo
  | ptimer
  | pfb
  | pextdev
  | pme
  | pvideo
  | pramdac
deriving DecidableEq, Repr, Inhabited

/-- An out-of-scope subsystem s of an EXT(s) range (R74); PGRAPH is the only one the default RANGES names. -/
inductive ExtSubsys where
  | pgraph
  | other (n : Nat)
deriving DecidableEq, Repr, Inhabited

/-- What a range of the arbiter is bound to (R43). -/
inductive Target where
  | sub (t : Subsys)
  | ext (x : ExtSubsys)
deriving DecidableEq, Repr, Inhabited

/-- One entry [start, end] of RANGES, both ends inclusive (R43). -/
structure RangeEntry where
  start  : Nat
  finish : Nat
  target : Target
deriving DecidableEq, Repr, Inhabited

/-- One legacy window [start, end] of VGA_WINDOW (R44). -/
structure VgaWindow where
  start  : Nat
  finish : Nat
deriving DecidableEq, Repr, Inhabited

/-- The registers of the register map (R75). `intr S` and `intrEn S` are S_INTR_0 and S_INTR_EN_0 of the pair S;
`coeff g` is PRAMDAC_VPLL_COEFF or PRAMDAC_MPLL_COEFF. -/
inductive Reg where
  | pmcBoot0
  | pmcIntr0
  | pmcIntrEn0
  | pmcEnable
  | intr (S : PairSource)
  | intrEn (S : PairSource)
  | ptimerNumerator
  | ptimerDenominator
  | ptimerTime0
  | ptimerTime1
  | ptimerAlarm0
  | pfbConfig0
  | pextdevBoot0
  | coeff (g : Gen)
deriving DecidableEq, Repr, Inhabited

/-- One row of REGMAP: a register and its 24-bit offset (R75). -/
structure RegEntry where
  reg    : Reg
  offset : Nat
deriving DecidableEq, Repr, Inhabited

/-- One row of GATED with its ENABLE_BIT (R71). -/
structure GateEntry where
  sub : Subsys
  bit : Fin 32
deriving DecidableEq, Repr, Inhabited

/-- IRQ_CLASS (R126). -/
inductive IrqClass where
  | low31First
  | topFirst
deriving DecidableEq, Repr, Inhabited

/-- SUPPRESS_MODE (R125). -/
inductive SuppressMode where
  | hold
  | deassert
deriving DecidableEq, Repr, Inhabited

/-- SW_TRIGGER (R77, R128). -/
inductive SwTrigger where
  | bit31Sets
  | none
deriving DecidableEq, Repr, Inhabited

/-- RMA_TRIGGER (R113). -/
inductive RmaTrigger where
  | port0B
  | fourthByte
deriving DecidableEq, Repr, Inhabited

/-- TICK_INC_BITS (R101): 64 or 32. -/
inductive TickIncBits where
  | bits64
  | bits32
deriving DecidableEq, Repr, Inhabited

/-- AGG_BIT of the seven sources whose position is a parameter; the software source is bit 31 by R123. -/
structure AggBits where
  mediaport : Fin 32
  fifo      : Fin 32
  graphics0 : Fin 32
  graphics1 : Fin 32
  video     : Fin 32
  timer     : Fin 32
  bus       : Fin 32
deriving DecidableEq, Repr, Inhabited

/-- A positive rational number (numPred + 1) / (denPred + 1): FIX_QUOTIENT's type (R10). Positive by construction. -/
structure PosRat where
  numPred : Nat
  denPred : Nat
deriving DecidableEq, Repr, Inhabited

/-- The configuration: every named parameter of R10, as plain data. VGA_WINDOW is given by its windows. -/
structure Config where
  crystalHz      : Nat
  fixQuotient    : PosRat
  bootId         : Word
  straps         : Word
  ranges         : List RangeEntry
  regmap         : List RegEntry
  vgaWindows     : List VgaWindow
  aggBits        : AggBits
  globalEnHwBit  : Fin 32
  globalEnSwBit  : Fin 32
  irqClass       : IrqClass
  suppressMode   : SuppressMode
  swTrigger      : SwTrigger
  gated          : List GateEntry
  pmcEnableReset : Word
  alarmBit       : Fin 32
  numReset       : Word
  denReset       : Word
  alarmReset     : Word
  divResetVclk   : BitVec 19
  divResetMclk   : BitVec 19
  timersAtReset  : Bool
  rmaSignature   : Word
  rmaTxnBit      : Fin 8
  rmaAutoincBit  : Fin 8
  rmaModeReset   : Byte
  rmaTrigger     : RmaTrigger
  tickIncBits    : TickIncBits
deriving DecidableEq, Repr, Inhabited

/-- BOOT_ID is OPEN (R10, 92 D18): no value is known to any proof. Log entry 2. -/
opaque Config.openBootId : Word

/-- STRAPS is OPEN (R10, 92 D19). Log entry 2. -/
opaque Config.openStraps : Word

/-- FIX_QUOTIENT is OPEN, a positive rational (R10, 92 D21). Log entry 2. -/
opaque Config.openFixQuotient : PosRat

/-- RMA_SIGNATURE is OPEN, four bytes (R10, R110, 92 D32). Log entry 2. -/
opaque Config.openRmaSignature : Word

/-- The n-th answer of a collaborator that the environment did not supply: a free value (R15, 93 items 5 to 7). Log entry 4. -/
opaque Config.freeAnswer : Nat → Word

end Sys2Proof
end

