-- ==== Sys2Proof/Machine/Params.lean ====
section
/-! DEFINITION. Reading the configuration: owners of registers, aggregate bits, FIX_QUOTIENT as a rational, and the
spec's DEFAULT value of each parameter (R10, R43, R44, R75, R123). Log entry 3: the defaults are the spec's choices. -/

namespace Sys2Proof.Machine

/-- FIX_QUOTIENT as the exact rational it stands for. -/
def posRatValue (q : PosRat) : Q := ((q.numPred + 1 : Nat) : Q) / ((q.denPred + 1 : Nat) : Q)

/-- The subsystem column of R75 for a pair's two words. -/
def pairOwner : PairSource → Subsys
  | .pme => .pme
  | .pfifo => .pfifo
  | .pvideo => .pvideo
  | .ptimer => .ptimer
  | .pbus => .pbus

/-- The subsystem column of R75. -/
def regOwner : Reg → Subsys
  | .pmcBoot0 | .pmcIntr0 | .pmcIntrEn0 | .pmcEnable => .pmc
  | .intr S | .intrEn S => pairOwner S
  | .ptimerNumerator | .ptimerDenominator | .ptimerTime0 | .ptimerTime1 | .ptimerAlarm0 => .ptimer
  | .pfbConfig0 => .pfb
  | .pextdevBoot0 => .pextdev
  | .coeff _ => .pramdac

/-- The five pairs. -/
def allPairs : List PairSource := [.pme, .pfifo, .pvideo, .ptimer, .pbus]

/-- The eight sources in the fixed evaluation order of R122. -/
def allSources : List IrqSource := [.mediaport, .fifo, .graphics0, .graphics1, .video, .timer, .bus, .software]

/-- The 23 registers of R75. -/
def allRegs : List Reg :=
  [.pmcBoot0, .pmcIntr0, .pmcIntrEn0, .pmcEnable]
    ++ allPairs.map Reg.intr ++ allPairs.map Reg.intrEn
    ++ [.ptimerNumerator, .ptimerDenominator, .ptimerTime0, .ptimerTime1, .ptimerAlarm0]
    ++ [.pfbConfig0, .pextdevBoot0, .coeff .mclk, .coeff .vclk]

/-- AGG_BIT(s) (R123): seven parameters, and bit 31 for the software source. -/
def aggBit (b : AggBits) : IrqSource → Fin 32
  | .mediaport => b.mediaport
  | .fifo => b.fifo
  | .graphics0 => b.graphics0
  | .graphics1 => b.graphics1
  | .video => b.video
  | .timer => b.timer
  | .bus => b.bus
  | .software => 31

/-- The default RANGES (R43). -/
def defaultRanges : List RangeEntry :=
  [⟨0x000000, 0x000FFF, .sub .pmc⟩,
   ⟨0x001000, 0x001FFF, .sub .pbus⟩,
   ⟨0x002000, 0x003FFF, .sub .pfifo⟩,
   ⟨0x009000, 0x009FFF, .sub .ptimer⟩,
   ⟨0x100000, 0x100FFF, .sub .pfb⟩,
   ⟨0x101000, 0x101FFF, .sub .pextdev⟩,
   ⟨0x200000, 0x200FFF, .sub .pme⟩,
   ⟨0x400000, 0x401FFF, .ext .pgraph⟩,
   ⟨0x680000, 0x6802FF, .sub .pvideo⟩,
   ⟨0x680300, 0x680FFF, .sub .pramdac⟩]

/-- The default REGMAP (R75). -/
def defaultRegmap : List RegEntry :=
  [⟨.pmcBoot0, 0x000000⟩, ⟨.pmcIntr0, 0x000100⟩, ⟨.pmcIntrEn0, 0x000140⟩, ⟨.pmcEnable, 0x000200⟩,
   ⟨.intr .pbus, 0x001100⟩, ⟨.intrEn .pbus, 0x001140⟩,
   ⟨.intr .pfifo, 0x002100⟩, ⟨.intrEn .pfifo, 0x002140⟩,
   ⟨.intr .ptimer, 0x009100⟩, ⟨.intrEn .ptimer, 0x009140⟩]
  ++ [⟨.ptimerNumerator, 0x009200⟩, ⟨.ptimerDenominator, 0x009210⟩,
   ⟨.ptimerTime0, 0x009400⟩, ⟨.ptimerTime1, 0x009410⟩, ⟨.ptimerAlarm0, 0x009420⟩,
   ⟨.pfbConfig0, 0x100200⟩, ⟨.pextdevBoot0, 0x101000⟩]
  ++ [⟨.intr .pme, 0x200100⟩, ⟨.intrEn .pme, 0x200140⟩,
   ⟨.intr .pvideo, 0x680100⟩, ⟨.intrEn .pvideo, 0x680140⟩,
   ⟨.coeff .mclk, 0x680504⟩, ⟨.coeff .vclk, 0x680508⟩]

/-- The default VGA windows (R44). -/
def defaultVgaWindows : List VgaWindow :=
  [⟨0x0C0000, 0x0C03FF⟩, ⟨0x601000, 0x601FFF⟩, ⟨0x681000, 0x681FFF⟩]

/-- The default AGG_BIT of the seven hardware sources (R123). -/
def defaultAggBits : AggBits :=
  { mediaport := 4, fifo := 8, graphics0 := 12, graphics1 := 13, video := 16, timer := 20, bus := 28 }

/-- The configuration of R10's default column, with the four OPEN parameters left opaque. -/
def defaultConfig : Config :=
  { crystalHz := 13500000
    fixQuotient := Config.openFixQuotient
    bootId := Config.openBootId
    straps := Config.openStraps
    ranges := defaultRanges
    regmap := defaultRegmap
    vgaWindows := defaultVgaWindows
    aggBits := defaultAggBits
    globalEnHwBit := 0
    globalEnSwBit := 1
    irqClass := .low31First
    suppressMode := .hold
    swTrigger := .bit31Sets
    gated := [⟨.pfifo, 8⟩]
    pmcEnableReset := 0x00000000
    alarmBit := 0
    numReset := 1
    denReset := 1
    alarmReset := 0
    divResetVclk := 0
    divResetMclk := 0
    timersAtReset := false
    rmaSignature := Config.openRmaSignature
    rmaTxnBit := 0
    rmaAutoincBit := 1
    rmaModeReset := 0x01
    rmaTrigger := .port0B
    tickIncBits := .bits64 }

end Sys2Proof.Machine
end

