-- ==== Sys2Proof/Machine/Divider.lean ====
section
/-! DEFINITION. A clock divider record, its packing, and the frequency and period it sets (42_clock_timer.md R94, R96, R97). -/

namespace Sys2Proof.Machine

/-- One divider record {M, N, P} (R31). The stored fields are not clamped. -/
structure Divider where
  m : Byte
  n : Byte
  p : BitVec 3
deriving DecidableEq, Repr, Inhabited

/-- Pack (R94): M at bits 7:0, N at 15:8, P at 18:16, bits 31:19 zero. -/
def packDivider (d : Divider) : Word :=
  d.p.setWidth 32 <<< 16 ||| d.n.setWidth 32 <<< 8 ||| d.m.setWidth 32

/-- Unpack (R94): bits 31:19 are ignored. -/
def unpackDivider (v : Word) : Divider :=
  { m := v.extractLsb' 0 8, n := v.extractLsb' 8 8, p := v.extractLsb' 16 3 }

/-- f(g) in hertz (R96): CRYSTAL_HZ × max(N, 1) / (max(M, 1) << P), exact. -/
def frequency (crystalHz : Nat) (d : Divider) : Q :=
  ((crystalHz * max d.n.toNat 1 : Nat) : Q) / ((max d.m.toNat 1 * 2 ^ d.p.toNat : Nat) : Q)

/-- T(g) in microseconds (R97): (1,000,000 × FIX_QUOTIENT) / f(g), exact. -/
def timerPeriod (c : Config) (d : Divider) : Q :=
  (1000000 * posRatValue c.fixQuotient) / frequency c.crystalHz d

end Sys2Proof.Machine
end

