-- ==== Sys2Proof/Syntax.lean ====
section
/-! DEFINITION. The transactions of format T (30_encoding.md R60 to R64): the packed record, the fifteen commands with
their operands taken apart, and the three ways a record can be illegal. -/

namespace Sys2Proof

/-- A transaction record of format T (R60): the packed 72 bits, and ELAPSED_US, the separate operand of a tick. -/
structure Txn where
  packed    : BitVec 72
  elapsedUs : Q
deriving DecidableEq, Repr

/-- The fifteen commands (R62), one constructor per row of the opcode table. -/
inductive Instr where
  | mmioRd8 (addr : Addr)
  | mmioRd16 (addr : Addr)
  | mmioRd32 (addr : Addr)
  | mmioWr8 (addr : Addr) (b : Byte)
  | mmioWr16 (addr : Addr) (h : Half)
  | mmioWr32 (addr : Addr) (v : Word)
  | rmaIn (port : Byte)
  | rmaOut (port : Byte) (b : Byte)
  | rmaModeWr (b : Byte)
  | tickVclk (elapsedUs : Q)
  | tickMclk (elapsedUs : Q)
  | raiseIntr (src : PairSource) (mask : Word)
  | grPending (g0 g1 : Bool)
  | reset
  | teardown
deriving DecidableEq, Repr

/-- The illegal encodings of R64, by name. -/
inductive Illegal where
  /-- CMD is not listed in R62 (the MMIO width code 11 among them). -/
  | unlistedCommand (cmd : Byte)
  /-- RAISE_INTR with a source code of 5 to 7. -/
  | raiseSource (code : BitVec 3)
  /-- A tick whose ELAPSED_US is not positive. -/
  | nonPositiveElapsed
deriving DecidableEq, Repr

end Sys2Proof
end

