-- ==== Sys2Proof/Machine/State.lean ====
section
/-! DEFINITION. The state of the block (10_state.md), the calls it makes on its ports (R19), what a transaction returns,
the reasons a step can stop, and the state after reset (70_reset_and_hazards.md R142). -/

namespace Sys2Proof.Machine

/-- A source's pair of words, S_STATUS and S_ENABLE (R26). -/
structure Pair where
  status : Word
  enable : Word
deriving DecidableEq, Repr, Inhabited

/-- The state of one host virtual timer (R32): T_CREATED, T_RUNNING, T_PERIOD in microseconds (meaningful only while created). -/
structure HostTimer where
  created : Bool
  running : Bool
  period  : Q
deriving DecidableEq, Repr, Inhabited

/-- A call on one of the block's outgoing ports (R19): an observable event (R15). -/
inductive Call where
  | vgaIn (port : VgaPort)
  | vgaOut (port : VgaPort) (b : Byte)
  | vramRead8 (off : Word)
  | vramWrite32 (off : Word) (v : Word)
  | extRead32 (x : ExtSubsys) (a : Addr)
  | extWrite32 (x : ExtSubsys) (a : Addr) (v : Word)
  | irqAssert
  | irqDeassert
  | timerCreate (g : Gen) (period : Q)
  | timerStart (g : Gen)
  | timerSetPeriod (g : Gen) (period : Q)
  | timerDestroy (g : Gen)
deriving DecidableEq, Repr, Inhabited

/-- What a transaction returns (R60): nothing, DATA[31:0] of an MMIO read, or the byte of an RMA_IN. -/
inductive Response where
  | none
  | data (v : Word)
  | byte (b : Byte)
deriving DecidableEq, Repr, Inhabited

/-- Why the block has no step. -/
inductive Fault where
  /-- Raised by every transaction but RESET while DEAD = 1: 'Such a transaction is stuck, not refused' (R120). Safe. -/
  | stuckAfterTeardown
  /-- Raised by `step` when the environment offers no transaction: 'A run ends when the environment offers no further
  transaction' (R121). Safe. -/
  | endOfRun
deriving DecidableEq, Repr

/-- The state of the block, and the model's own view of its ports. Plain data. -/
structure State where
  /-- The named parameters (R10, R20); no step changes them. -/
  cfg        : Config
  /-- AGG (R22). -/
  agg        : Word
  /-- SW_STATUS (R23). -/
  swStatus   : Bool
  /-- GLOBAL_EN.HW (R24). -/
  globalEnHw : Bool
  /-- GLOBAL_EN.SW (R24). -/
  globalEnSw : Bool
  /-- PMC_ENABLE (R25). -/
  pmcEnable  : Word
  /-- The mediaport pair (R26). -/
  pme        : Pair
  /-- The FIFO pair (R26). -/
  pfifo      : Pair
  /-- The video pair (R26). -/
  pvideo     : Pair
  /-- The timer pair (R26). -/
  ptimer     : Pair
  /-- The bus pair (R26). -/
  pbus       : Pair
  /-- GR0_PEND (R27). -/
  gr0Pend    : Bool
  /-- GR1_PEND (R27). -/
  gr1Pend    : Bool
  /-- PFB_CONFIG_0 (R29). -/
  pfbConfig0 : Word
  /-- DIV[VCLK] (R31). -/
  vclkDiv    : Divider
  /-- DIV[MCLK] (R31). -/
  mclkDiv    : Divider
  /-- The pixel clock's host timer (R32). -/
  vclkTimer  : HostTimer
  /-- The memory clock's host timer (R32). -/
  mclkTimer  : HostTimer
  /-- DEAD (R33). -/
  dead       : Bool
  /-- TIME (R34). -/
  time       : BitVec 64
  /-- NUM (R35). -/
  num        : Word
  /-- DEN (R35). -/
  den        : Word
  /-- ALARM (R36). -/
  alarm      : Word
  /-- LINE (R37). -/
  line       : Bool
  /-- RMA_ADDR (R38). -/
  rmaAddr    : Word
  /-- RMA_DATA (R38). -/
  rmaData    : Word
  /-- RMA_MODE (R38). -/
  rmaMode    : Byte
  /-- RMA_SAVE[0..3] (R38, R116). -/
  rmaSave    : Vector Byte 4
  /-- RMA_DCOUNT, values 0 to 4 (R38, R113). -/
  rmaDcount  : Fin 5
  /-- The REFUSED mark (R64, 93 item 1; log entry 7). -/
  refused    : Bool
  /-- Model's own: the transactions the environment offers, oldest first (log entry 1). -/
  inbox      : List Txn
  /-- Model's own: the collaborators' next answers, oldest first (log entry 4). -/
  answers    : List Word
  /-- Model's own: how many free values have been drawn (log entry 4). -/
  drawCount  : Nat
  /-- Model's own: the calls made on the ports, in order (R15; log entry 5). -/
  calls      : List Call
  /-- Model's own: what the last transaction returned (R60; log entry 6). -/
  response   : Response
deriving DecidableEq, Repr

/-- Why a step gives no meaning. Declared after State, because the refusal of a transaction carries the state it leaves. -/
inductive Refusal where
  /-- An arm of `exec` whose instruction has no meaning yet (no arm is left so). Safe. -/
  | notModelled (mnemonic : String)
  /-- Raised by `step` on an illegal encoding, and by a tick whose ELAPSED_US is not positive (R64). `marked` is the state the
  refusal leaves: 'the state is marked refused for good' (log entry 7). Safe. -/
  | illegalTransaction (why : Illegal) (marked : State)
  /-- Raised by `step` in a state marked refused: 'the state is marked refused for good' (R64). Safe. -/
  | refusedForGood
  /-- Raised by `step` under a configuration that breaks R11: 'A model refuses an ill-formed configuration at
  construction'. Safe. -/
  | illFormedConfiguration
deriving DecidableEq, Repr

/-- A host timer that does not exist; its period is meaningless (R142; the 0 is log entry 10). -/
def HostTimer.absent : HostTimer := ⟨false, false, 0⟩

/-- Every state element at its reset value (R142), the port views empty. -/
def State.atReset (c : Config) : State :=
  { cfg := c
    agg := 0
    swStatus := false
    globalEnHw := true
    globalEnSw := true
    pmcEnable := c.pmcEnableReset
    pme := ⟨0, 0⟩
    pfifo := ⟨0, 0⟩
    pvideo := ⟨0, 0⟩
    ptimer := ⟨0, 0⟩
    pbus := ⟨0, 0⟩
    gr0Pend := false
    gr1Pend := false
    pfbConfig0 := 0
    vclkDiv := unpackDivider (c.divResetVclk.setWidth 32)
    mclkDiv := unpackDivider (c.divResetMclk.setWidth 32)
    vclkTimer := HostTimer.absent
    mclkTimer := HostTimer.absent
    dead := false
    time := 0
    num := c.numReset
    den := c.denReset
    alarm := c.alarmReset
    line := false
    rmaAddr := 0
    rmaData := 0
    rmaMode := c.rmaModeReset
    rmaSave := #v[0, 0, 0, 0]
    rmaDcount := 0
    refused := false
    inbox := []
    answers := []
    drawCount := 0
    calls := []
    response := .none }

/-- The block right after reset, under the default parameters (R142; TIMERS_AT_RESET is false by default, so no timer exists, R143). -/
def State.reset : State := State.atReset defaultConfig

end Sys2Proof.Machine
end

