-- ==== Sys2Proof/Machine/Access.lean ====
section
/-! DEFINITION. The one home of each register: reading and writing the pairs, the dividers, the host timers, the lanes of
RMA_SAVE; recording a port call; taking a collaborator's answer. -/

namespace Sys2Proof.Machine

/-- The pair of a source (R26). -/
def State.pair (s : State) : PairSource → Pair
  | .pme => s.pme
  | .pfifo => s.pfifo
  | .pvideo => s.pvideo
  | .ptimer => s.ptimer
  | .pbus => s.pbus

/-- Writing the pair of a source. -/
def State.setPair (s : State) (S : PairSource) (p : Pair) : State :=
  match S with
  | .pme => { s with pme := p }
  | .pfifo => { s with pfifo := p }
  | .pvideo => { s with pvideo := p }
  | .ptimer => { s with ptimer := p }
  | .pbus => { s with pbus := p }

/-- S_STATUS <- w. -/
def State.setStatus (s : State) (S : PairSource) (w : Word) : State :=
  s.setPair S { s.pair S with status := w }

/-- S_ENABLE <- w. -/
def State.setEnable (s : State) (S : PairSource) (w : Word) : State :=
  s.setPair S { s.pair S with enable := w }

/-- DIV[g] (R31). -/
def State.divider (s : State) : Gen → Divider
  | .vclk => s.vclkDiv
  | .mclk => s.mclkDiv

/-- DIV[g] <- d. -/
def State.setDivider (s : State) (g : Gen) (d : Divider) : State :=
  match g with
  | .vclk => { s with vclkDiv := d }
  | .mclk => { s with mclkDiv := d }

/-- T_CREATED[g], T_RUNNING[g], T_PERIOD[g] (R32). -/
def State.timer (s : State) : Gen → HostTimer
  | .vclk => s.vclkTimer
  | .mclk => s.mclkTimer

/-- Writing the host timer of a generator. -/
def State.setTimer (s : State) (g : Gen) (t : HostTimer) : State :=
  match g with
  | .vclk => { s with vclkTimer := t }
  | .mclk => { s with mclkTimer := t }

/-- One call on an outgoing port, after the ones already made (R15). -/
def State.emit (s : State) (c : Call) : State := { s with calls := s.calls ++ [c] }

/-- What the transaction returns (R60). -/
def State.respond (s : State) (r : Response) : State := { s with response := r }

/-- The answer of a collaborator to a read call: the next one the environment supplied, or a free value (R15, R20; log entry 4). -/
def State.answer (s : State) : Word :=
  match s.answers with
  | w :: _ => w
  | [] => Config.freeAnswer s.drawCount

/-- The state once that answer has been taken. -/
def State.afterAnswer (s : State) : State :=
  match s.answers with
  | _ :: rest => { s with answers := rest }
  | [] => { s with drawCount := s.drawCount + 1 }

/-- A read call on a port: the call is recorded, then the answer taken. -/
def State.ask (s : State) (c : Call) : Word × State := (s.answer, (s.emit c).afterAnswer)

end Sys2Proof.Machine
end

