-- ==== Sys2Proof/Machine/Flags.lean ====
section
/-! DEFINITION. The computations over the status flags (60_exceptions.md R122 to R126): pending words, the aggregate, the
classification, and what the aggregator does with the line. -/

namespace Sys2Proof.Machine

/-- `status & enable` of a pair (R122). -/
def pairPending (p : Pair) : Word := p.status &&& p.enable

/-- One pending bit as a word. -/
def flagWord (b : Bool) : Word := if b then 1 else 0

/-- Pending(s) (R122); SW_ENABLE is hardwired 1. -/
def pendingWord (s : State) : IrqSource → Word
  | .mediaport => pairPending s.pme
  | .fifo => pairPending s.pfifo
  | .graphics0 => flagWord s.gr0Pend
  | .graphics1 => flagWord s.gr1Pend
  | .video => pairPending s.pvideo
  | .timer => pairPending s.ptimer
  | .bus => pairPending s.pbus
  | .software => flagWord s.swStatus

/-- One turn of R124's loop: `if Pending(s) != 0: agg <- agg | (1 << AGG_BIT(s))`. -/
def addPending (s : State) (agg : Word) (x : IrqSource) : Word :=
  if pendingWord s x ≠ 0 then agg ||| ((1 : Word) <<< (aggBit s.cfg.aggBits x).val) else agg

/-- The aggregate that Recompute stores (R124). -/
def aggregate (s : State) : Word := allSources.foldl (addPending s) 0

/-- The two gates of the global enable (R24). -/
inductive Gate where
  | hw
  | sw
deriving DecidableEq, Repr

/-- GLOBAL_EN[gate]. -/
def gateOpen (s : State) : Gate → Bool
  | .hw => s.globalEnHw
  | .sw => s.globalEnSw

/-- GLOBAL_EN = 0: both gates clear. -/
def bothGatesClosed (s : State) : Bool := !s.globalEnHw && !s.globalEnSw

/-- Classify(AGG) (R126). -/
def classify (c : IrqClass) (agg : Word) : Gate :=
  match c with
  | .low31First => if agg &&& 0x7FFFFFFF ≠ 0 then .hw else .sw
  | .topFirst => if agg.getLsbD 31 then .sw else .hw

/-- What the aggregator asks of the interrupt line. -/
inductive LineAction where
  | assert
  | deassert
  | hold
deriving DecidableEq, Repr

/-- SUPPRESS_MODE's effect when the selected gate is closed (R125). -/
def suppressAction : SuppressMode → LineAction
  | .hold => .hold
  | .deassert => .deassert

/-- Dispatch() as a decision (R125), on the stored AGG. -/
def dispatchAction (s : State) : LineAction :=
  if s.agg = 0 then .deassert
  else if gateOpen s (classify s.cfg.irqClass s.agg) then .assert
  else suppressAction s.cfg.suppressMode

/-- The line part of Recompute(send_now) as a decision (R124), on the stored AGG. -/
def recomputeAction (sendNow : Bool) (s : State) : LineAction :=
  if bothGatesClosed s then .deassert
  else if sendNow then dispatchAction s
  else .hold

end Sys2Proof.Machine
end

