-- ==== Sys2Proof/Machine/Operands.lean ====
section
/-! DEFINITION. Operand forms: address masking and alignment, lanes (20_memory.md R41, R46, R50; 41_composer.md R84 to
R90), the VGA predicate and its ports (R44, R85), and the RMA port and target (43_rma.md R107, R109). -/

namespace Sys2Proof.Machine

/-- `a & 0xFFFFFC`: the low two bits masked (R50, R68). -/
def alignAddr (a : Addr) : Addr := a &&& 0xFFFFFC

/-- `sh <- 8 × (a & 3)` (R84). -/
def laneShift (a : Addr) : Nat := 8 * (a &&& 3).toNat

/-- `(w >> sh) & 0xFF` (R86). -/
def extract8 (w : Word) (a : Addr) : Word := (w >>> laneShift a) &&& 0xFF

/-- `(w >> sh) & 0xFFFF` (R87): at a&3 = 3 only lane 3 is left. -/
def extract16 (w : Word) (a : Addr) : Word := (w >>> laneShift a) &&& 0xFFFF

/-- `(w & ~(0xFF << sh)) | (zext_32(b) << sh)` (R89). -/
def insert8 (w : Word) (a : Addr) (b : Byte) : Word :=
  (w &&& ~~~((0xFF : Word) <<< laneShift a)) ||| (b.setWidth 32 <<< laneShift a)

/-- `(w & ~(0xFFFF << sh)) | (zext_32(h) << sh)`, both shifts truncated to 32 bits (R90). -/
def insert16 (w : Word) (a : Addr) (h : Half) : Word :=
  (w &&& ~~~((0xFFFF : Word) <<< laneShift a)) ||| (h.setWidth 32 <<< laneShift a)

/-- Lane k of a word, bits [8k+7:8k] (R46). -/
def lane (w : Word) (k : Nat) : Byte := (w >>> (8 * k)).setWidth 8

/-- `w[8k+7:8k] <- b` (R112). -/
def setLane (w : Word) (k : Nat) (b : Byte) : Word :=
  (w &&& ~~~((0xFF : Word) <<< (8 * k))) ||| (b.setWidth 32 <<< (8 * k))

/-- VGA_WINDOW(a), tested on the masked, unaligned address (R44, R84). -/
def inVgaWindow (c : Config) (a : Addr) : Bool :=
  c.vgaWindows.any fun w => decide (w.start ≤ a.toNat) && decide (a.toNat ≤ w.finish)

/-- The VGA port of byte i of an access at a: `(a + i) & 0x3FF` (R48, R85). -/
def vgaPort (a : Addr) (i : Nat) : VgaPort := (a + BitVec.ofNat 24 i).setWidth 10

/-- The classes of RMA port indices (R107). -/
inductive RmaPort where
  | low (k : Fin 4)
  | data (k : Fin 4)
  | undefined
deriving DecidableEq, Repr

/-- Ports 0x00–0x03, ports 0x08–0x0B, and the rest (R107); k is p & 3. -/
def rmaPort (p : Byte) : RmaPort :=
  if p.toNat < 4 then .low (Fin.ofNat 4 p.toNat)
  else if 8 ≤ p.toNat ∧ p.toNat < 12 then .data (Fin.ofNat 4 p.toNat)
  else .undefined

/-- The size of the register aperture, 2^24 (R9). -/
def aperture : Word := 0x1000000

/-- An RMA target address resolved (R109). -/
inductive RmaTarget where
  | register (a : Addr)
  | vram (off : Word)
deriving DecidableEq, Repr

/-- t < APERTURE is a register-aperture address, masked to 24 bits (R41); from APERTURE upward a VRAM offset (R109). -/
def rmaTarget (t : Word) : RmaTarget :=
  if t.toNat < aperture.toNat then .register (t.setWidth 24) else .vram (t - aperture)

end Sys2Proof.Machine
end

