-- ==== Sys2Proof/WellFormed.lean ====
section
/-! DEFINITION. Which instructions are legal (30_encoding.md R64) and which configurations are well formed
(00_scope.md R11). Both are Bool checks. -/

namespace Sys2Proof

/-- ELAPSED_US is a positive rational (R60, R64). -/
def positiveElapsed (e : Q) : Bool := decide (0 < e.num)

/-- The one legality condition that the operands' types do not already enforce: a tick's ELAPSED_US is positive. -/
def Instr.wellFormed : Instr → Bool
  | .tickVclk e => positiveElapsed e
  | .tickMclk e => positiveElapsed e
  | .mmioRd8 _ | .mmioRd16 _ | .mmioRd32 _ | .mmioWr8 _ _ | .mmioWr16 _ _ | .mmioWr32 _ _ => true
  | .rmaIn _ | .rmaOut _ _ | .rmaModeWr _ => true
  | .raiseIntr _ _ | .grPending _ _ | .reset | .teardown => true

/-- `r` holds of every two entries of the list, the earlier one first. -/
def everyPair {α : Type} (r : α → α → Bool) : List α → Bool
  | [] => true
  | x :: xs => xs.all (r x) && everyPair r xs

/-- Condition 1 of R11, for one entry: start ≤ end, inside 0..2^24−1. -/
def RangeEntry.proper (e : RangeEntry) : Bool := decide (e.start ≤ e.finish) && decide (e.finish < 2 ^ 24)

/-- Condition 1 of R11, for two entries: no address in common. -/
def RangeEntry.disjoint (e f : RangeEntry) : Bool := decide (e.finish < f.start) || decide (f.finish < e.start)

/-- Condition 2 of R11: two rows of REGMAP do not share a 32-bit-aligned offset. One register may stand at two offsets: DESIGN
CHOICE, log entry 21. -/
def RegEntry.apart (e f : RegEntry) : Bool := decide (e.offset / 4 ≠ f.offset / 4)

/-- Condition 3 of R11: the offset is 4-byte aligned and lies inside the range of the register's subsystem. R11 says 'its
subsystem's range' and forbids nowhere that several entries of RANGES name one subsystem: the offset may then lie in any of
them (DESIGN CHOICE, log entry 22). -/
def RegEntry.placed (ranges : List RangeEntry) (e : RegEntry) : Bool :=
  decide (e.offset % 4 = 0) &&
  ranges.any fun r =>
    decide (r.target = .sub (Machine.regOwner e.reg)) && decide (r.start ≤ e.offset) && decide (e.offset ≤ r.finish)

/-- REGMAP gives every register of R75 an offset (R10, R75), at least one: R39 excludes a second only 'under the default
REGMAP', and the model accepts one (DESIGN CHOICE, log entry 21). -/
def Config.mapsEveryRegister (c : Config) : Bool :=
  Machine.allRegs.all fun r => c.regmap.any fun e => decide (e.reg = r)

/-- Condition 4 of R11: AGG_BIT is injective. -/
def Config.aggBitsInjective (c : Config) : Bool :=
  everyPair (fun x y => decide (Machine.aggBit c.aggBits x ≠ Machine.aggBit c.aggBits y)) Machine.allSources

/-- A well-formed configuration: the four conditions of R11, and what R10 and R35 say of the parameters' values
(CRYSTAL_HZ positive, DEN_RESET not 0, every register mapped; log entry 11). A register at two offsets is accepted (DESIGN
CHOICE, log entry 21), and so are several RANGES entries for one subsystem (DESIGN CHOICE, log entry 22). -/
def Config.wellFormed (c : Config) : Bool :=
  (c.ranges.all RangeEntry.proper && everyPair RangeEntry.disjoint c.ranges)
    && everyPair RegEntry.apart c.regmap
    && c.regmap.all (RegEntry.placed c.ranges)
    && c.aggBitsInjective
    && (c.mapsEveryRegister && decide (0 < c.crystalHz) && decide (c.denReset ≠ 0))

end Sys2Proof
end

