-- ==== Sys2Proof/Machine/Ops.lean ====
section
/-! DEFINITION. The shared operations: driving the line, Recompute (R124), W1C (R127), Program (R98), destroying timers
(R119, R141). The block takes no exception (R131, R132): Recompute is its one way of raising an interrupt, and W1C the one
way software acknowledges it (R133). Last: accepting a transaction (R33, R120) and refusing one (R64). -/

namespace Sys2Proof.Machine

/-- IrqAssert() and IrqDeassert() with LINE's new value, or nothing (R37, R125). -/
def State.drive (s : State) : LineAction → State
  | .assert => { s.emit .irqAssert with line := true }
  | .deassert => { s.emit .irqDeassert with line := false }
  | .hold => s

/-- `AGG <- agg`: the first half of Recompute (R124). -/
def State.refreshAgg (s : State) : State := { s with agg := aggregate s }

/-- Recompute(send_now) (R124). -/
def recompute (sendNow : Bool) (s : State) : State :=
  s.refreshAgg.drive (recomputeAction sendNow s.refreshAgg)

/-- W1C(S, v) (R127): clear, deassert, recompute with dispatch. -/
def w1c (S : PairSource) (v : Word) (s : State) : State :=
  recompute true ((s.setStatus S ((s.pair S).status &&& ~~~v)).drive .deassert)

/-- Setting status bits from inside the chip, then dispatching (R117; the alarm of R101 uses it too). -/
def raiseStatus (S : PairSource) (mask : Word) (s : State) : State :=
  recompute true (s.setStatus S ((s.pair S).status ||| mask))

/-- Program(g) (R98): create and start on first need, set the period afterwards. -/
def programTimer (g : Gen) (s : State) : State :=
  let T := timerPeriod s.cfg (s.divider g)
  if (s.timer g).created then
    (s.emit (.timerSetPeriod g T)).setTimer g { s.timer g with period := T }
  else
    ((s.emit (.timerCreate g T)).emit (.timerStart g)).setTimer g ⟨true, true, T⟩

/-- `if T_CREATED[g] = 1: TimerDestroy(g)`, the call alone (R119, R141). -/
def callDestroy (g : Gen) (s : State) : State :=
  if (s.timer g).created then s.emit (.timerDestroy g) else s

/-- TEARDOWN's step for one generator (R119): the call, and T_CREATED and T_RUNNING cleared. T_PERIOD stays, meaningless (log entry 10). -/
def destroyTimer (g : Gen) (s : State) : State :=
  if (s.timer g).created then
    (s.emit (.timerDestroy g)).setTimer g { s.timer g with created := false, running := false }
  else s

/-- A transaction that the block takes: it runs to completion and returns (R18), unless DEAD = 1, when it has no step (R120). -/
def accept (s : State) (run : State → Response × State) : Host.Outcome State Fault Refusal :=
  if s.dead then .fault .stuckAfterTeardown else .next ((run s).2.respond (run s).1)

/-- The REFUSED mark is set (R64: 'the state is marked refused for good'; 93 item 1). -/
def State.markRefused (s : State) : State := { s with refused := true }

/-- `refuse(reason)` on an illegal transaction (R14, R64): the refusal, and in it the marked state (log entry 7). -/
def refuseIllegal (why : Illegal) (s : State) : Refusal := .illegalTransaction why s.markRefused

/-- A tick is a transaction only if its ELAPSED_US is positive; otherwise it is refused and the state marked (R64). -/
def acceptTick (e : Q) (s : State) (run : State → State) : Host.Outcome State Fault Refusal :=
  if s.dead then .fault .stuckAfterTeardown
  else if positiveElapsed e then .next ((run s).respond .none)
  else .refused (refuseIllegal .nonPositiveElapsed s)

end Sys2Proof.Machine
end

