-- ==== Sys2Proof/Machine/Clock.lean ====
section
/-! DEFINITION. The host timers' ticks (42_clock_timer.md R100, R101): the time counter and its alarm. -/

namespace Sys2Proof.Machine

/-- `cycles <- E × f(MCLK) / 1,000,000` (R101). -/
def mclkCycles (s : State) (e : Q) : Q := e * frequency s.cfg.crystalHz s.mclkDiv / 1000000

/-- `x <- cycles × NUM × FIX_QUOTIENT / DEN` (R101), exact. -/
def tickAmount (s : State) (e : Q) : Q :=
  mclkCycles s e * (s.num.toNat : Q) * posRatValue s.cfg.fixQuotient / (s.den.toNat : Q)

/-- `delta <- floor(x)`, reduced modulo 2^32 under TICK_INC_BITS = 32 (R101). -/
def tickDelta (s : State) (e : Q) : Nat :=
  match s.cfg.tickIncBits with
  | .bits64 => (tickAmount s e).floor.toNat
  | .bits32 => (tickAmount s e).floor.toNat % 2 ^ 32

/-- `TIME <- (TIME + delta) mod 2^64` (R101). -/
def advanceTime (e : Q) (s : State) : State := { s with time := s.time + BitVec.ofNat 64 (tickDelta s e) }

/-- `TIME >= zext_64(ALARM)` (R36, R101). -/
def alarmDue (s : State) : Bool := decide (s.alarm.setWidth 64 ≤ s.time)

/-- The level-evaluated alarm (R101): set the bit and dispatch. -/
def evaluateAlarm (s : State) : State :=
  if alarmDue s then raiseStatus .ptimer ((1 : Word) <<< s.cfg.alarmBit.val) s else s

/-- The pseudocode of TICK_MCLK (R101). -/
def tickMclk (e : Q) (s : State) : State :=
  if s.mclkTimer.running then evaluateAlarm (advanceTime e s) else s

/-- TICK_VCLK (R100): no effect on the block's state, whether the timer runs or not. -/
def execTickVclk (e : Q) (s : State) : Host.Outcome State Fault Refusal :=
  acceptTick e s fun s => s

/-- TICK_MCLK (R101). -/
def execTickMclk (e : Q) (s : State) : Host.Outcome State Fault Refusal :=
  acceptTick e s (tickMclk e)

end Sys2Proof.Machine
end

