-- ==== Sys2Proof/Machine/HostInputs.lean ====
section
/-! DEFINITION. Event inputs, teardown and reset (44_host_inputs.md R117 to R119; 70_reset_and_hazards.md R141). -/

namespace Sys2Proof.Machine

/-- RAISE_INTR (R117). -/
def execRaiseIntr (S : PairSource) (mask : Word) (s : State) : Host.Outcome State Fault Refusal :=
  accept s fun s => (.none, raiseStatus S mask s)

/-- GR_PENDING (R118). -/
def execGrPending (g0 g1 : Bool) (s : State) : Host.Outcome State Fault Refusal :=
  accept s fun s => (.none, recompute true { s with gr0Pend := g0, gr1Pend := g1 })

/-- TEARDOWN (R119): VCLK first, then MCLK, then DEAD. The line stays as it is. -/
def execTeardown (s : State) : Host.Outcome State Fault Refusal :=
  accept s fun s => (.none, { destroyTimer .mclk (destroyTimer .vclk s) with dead := true })

/-- `every state element <- its reset value` (R141, R142). The parameters and the model's views of the ports are not state
elements of the spec and stay (log entry 12); so does the REFUSED mark, which is 'for good' (R64). -/
def resetElements (s : State) : State :=
  { State.atReset s.cfg with
    refused := s.refused
    inbox := s.inbox
    answers := s.answers
    drawCount := s.drawCount
    calls := s.calls
    response := s.response }

/-- `if TIMERS_AT_RESET: Program(VCLK); Program(MCLK)` (R141, R143). -/
def programAtReset (s : State) : State :=
  if s.cfg.timersAtReset then programTimer .mclk (programTimer .vclk s) else s

/-- The procedure of RESET (R141). -/
def resetBlock (s : State) : State :=
  programAtReset ((resetElements (callDestroy .mclk (callDestroy .vclk s))).drive .deassert)

/-- RESET (R141), the only transaction accepted while DEAD = 1. -/
def execReset (s : State) : Host.Outcome State Fault Refusal :=
  .next ((resetBlock s).respond .none)

end Sys2Proof.Machine
end

