-- ==== Sys2Proof/Machine/Registers.lean ====
section
/-! DEFINITION. The read rule and the write rule of every register (40_dispatch.md R76 to R83; 42_clock_timer.md R95,
R103 to R106). -/

namespace Sys2Proof.Machine

/-- The read of PMC_INTR_EN_0 (R78): the two gates at their bits, every other bit 0. -/
def globalEnWord (s : State) : Word :=
  (flagWord s.globalEnHw <<< s.cfg.globalEnHwBit.val) ||| (flagWord s.globalEnSw <<< s.cfg.globalEnSwBit.val)

/-- READ_r() (R68): the value, and the state with the read's side effect. Only PMC_INTR_0 has one (R77). -/
def readReg (r : Reg) (s : State) : Word × State :=
  match r with
  | .pmcBoot0 => (s.cfg.bootId, s)
  | .pmcIntr0 => ((recompute false s).agg, recompute false s)
  | .pmcIntrEn0 => (globalEnWord s, s)
  | .pmcEnable => (s.pmcEnable, s)
  | .intr S => ((s.pair S).status, s)
  | .intrEn S => ((s.pair S).enable, s)
  | .ptimerNumerator => (s.num, s)
  | .ptimerDenominator => (s.den, s)
  | .ptimerTime0 => (s.time.extractLsb' 0 32, s)
  | .ptimerTime1 => (s.time.extractLsb' 32 32, s)
  | .ptimerAlarm0 => (s.alarm, s)
  | .pfbConfig0 => (s.pfbConfig0, s)
  | .pextdevBoot0 => (s.cfg.straps, s)
  | .coeff g => (packDivider (s.divider g), s)

/-- The write of PMC_INTR_0 (R77): the software bit under BIT31_SETS, nothing under NONE. -/
def writePmcIntr (v : Word) (s : State) : State :=
  match s.cfg.swTrigger with
  | .bit31Sets => recompute true { s with swStatus := v.getLsbD 31 }
  | .none => s

/-- The write of PMC_INTR_EN_0 (R78). -/
def writePmcIntrEn (v : Word) (s : State) : State :=
  recompute true
    { s with
      globalEnHw := v.getLsbD s.cfg.globalEnHwBit.val
      globalEnSw := v.getLsbD s.cfg.globalEnSwBit.val }

/-- DEN's correction at write (R104): 'writes of zero are corrected to one'. -/
def correctDen (v : Word) : Word := if v = 0 then 1 else v

/-- The write of a divider register (R95): every write reprograms the timer. -/
def writeCoeff (g : Gen) (v : Word) (s : State) : State :=
  programTimer g (s.setDivider g (unpackDivider v))

/-- WRITE_r(v) (R69). -/
def writeReg (r : Reg) (v : Word) (s : State) : State :=
  match r with
  | .pmcBoot0 => s
  | .pmcIntr0 => writePmcIntr v s
  | .pmcIntrEn0 => writePmcIntrEn v s
  | .pmcEnable => { s with pmcEnable := v }
  | .intr S => w1c S v s
  | .intrEn S => recompute true (s.setEnable S v)
  | .ptimerNumerator => { s with num := v }
  | .ptimerDenominator => { s with den := correctDen v }
  | .ptimerTime0 => { s with time := s.time.extractLsb' 32 32 ++ v }
  | .ptimerTime1 => { s with time := v ++ s.time.extractLsb' 0 32 }
  | .ptimerAlarm0 => { s with alarm := v }
  | .pfbConfig0 => { s with pfbConfig0 := v }
  | .pextdevBoot0 => s
  | .coeff g => writeCoeff g v s

end Sys2Proof.Machine
end

