-- ==== Sys2Proof/Machine/Arbiter.lean ====
section
/-! DEFINITION. The arbiter's 32-bit primitives Read32 and Write32 (40_dispatch.md R68 to R74): range scan, subsystem gate,
register lookup, one route for reads and writes alike. -/

namespace Sys2Proof.Machine

/-- The first entry of RANGES that holds the address, in table order (R70). -/
def findRange (c : Config) (a : Addr) : Option Target :=
  (c.ranges.find? fun e => decide (e.start ≤ a.toNat) && decide (a.toNat ≤ e.finish)).map RangeEntry.target

/-- t in GATED and PMC_ENABLE[ENABLE_BIT(t)] = 0; PMC is never gated (R71). -/
def gateClosed (s : State) (t : Subsys) : Bool :=
  decide (t ≠ .pmc) && s.cfg.gated.any fun g => decide (g.sub = t) && !s.pmcEnable.getLsbD g.bit.val

/-- The register of t whose REGMAP offset is the address (R68, R72). -/
def findReg (c : Config) (t : Subsys) (a : Addr) : Option Reg :=
  (c.regmap.find? fun e => decide (e.offset = a.toNat) && decide (regOwner e.reg = t)).map RegEntry.reg

/-- Where an aligned access ends: the classes of R131, an external subsystem, or a register. -/
inductive Route where
  /-- In no range: 'read returns 0, write is discarded' (R70). -/
  | unmapped
  /-- In an EXT(x) range (R74). -/
  | external (x : ExtSubsys)
  /-- In the range of a subsystem whose gate is closed (R71). -/
  | gated (t : Subsys)
  /-- In a subsystem's range, at no register of it (R73). -/
  | unknown (t : Subsys)
  /-- At a register. -/
  | register (r : Reg)
deriving DecidableEq, Repr

/-- The common part of Read32 and Write32, on the aligned address (R68, R69). -/
def route (s : State) (a : Addr) : Route :=
  match findRange s.cfg a with
  | none => .unmapped
  | some (.ext x) => .external x
  | some (.sub t) =>
    if gateClosed s t then .gated t
    else match findReg s.cfg t a with
      | none => .unknown t
      | some r => .register r

/-- Read32(a) (R68). -/
def read32 (a : Addr) (s : State) : Word × State :=
  match route s (alignAddr a) with
  | .unmapped => (0, s)
  | .external x => s.ask (.extRead32 x (alignAddr a))
  | .gated _ => (0, s)
  | .unknown _ => (0, s)
  | .register r => readReg r s

/-- Write32(a, v) (R69). -/
def write32 (a : Addr) (v : Word) (s : State) : State :=
  match route s (alignAddr a) with
  | .unmapped => s
  | .external x => s.emit (.extWrite32 x (alignAddr a) v)
  | .gated _ => s
  | .unknown _ => s
  | .register r => writeReg r v s

end Sys2Proof.Machine
end

