-- ==== Sys2Proof/Machine/Mmio.lean ====
section
/-! DEFINITION. The byte/word access composer (41_composer.md R84 to R91): the VGA redirect, MemRead and MemWrite at each
width, and the six MMIO transactions. -/

namespace Sys2Proof.Machine

/-- VgaIn(port): a byte answer of the VGA collaborator (R85). -/
def vgaIn (port : VgaPort) (s : State) : Byte × State :=
  let r := s.ask (.vgaIn port)
  (r.1.setWidth 8, r.2)

/-- VgaRead(a, n) (R85): n byte reads, lowest byte first. -/
def vgaRead (a : Addr) : Nat → State → Word × State
  | 0, s => (0, s)
  | n + 1, s =>
    let below := vgaRead a n s
    let b := vgaIn (vgaPort a n) below.2
    (below.1 ||| (b.1.setWidth 32 <<< (8 * n)), b.2)

/-- VgaWrite(a, n, v) (R85): n byte writes, lowest byte first. -/
def vgaWrite (a : Addr) (v : Word) : Nat → State → State
  | 0, s => s
  | n + 1, s => (vgaWrite a v n s).emit (.vgaOut (vgaPort a n) (lane v n))

/-- MemRead(a, 1) (R86). -/
def memRead8 (a : Addr) (s : State) : Word × State :=
  if inVgaWindow s.cfg a then vgaRead a 1 s
  else
    let r := read32 (alignAddr a) s
    (extract8 r.1 a, r.2)

/-- MemRead(a, 2) (R87). -/
def memRead16 (a : Addr) (s : State) : Word × State :=
  if inVgaWindow s.cfg a then vgaRead a 2 s
  else
    let r := read32 (alignAddr a) s
    (extract16 r.1 a, r.2)

/-- MemRead(a, 4) (R88). -/
def memRead32 (a : Addr) (s : State) : Word × State :=
  if inVgaWindow s.cfg a then vgaRead a 4 s else read32 (alignAddr a) s

/-- MemWrite(a, 1, b) (R89): read-modify-write. -/
def memWrite8 (a : Addr) (b : Byte) (s : State) : State :=
  if inVgaWindow s.cfg a then vgaWrite a (b.setWidth 32) 1 s
  else
    let r := read32 (alignAddr a) s
    write32 (alignAddr a) (insert8 r.1 a b) r.2

/-- MemWrite(a, 2, h) (R90): read-modify-write. -/
def memWrite16 (a : Addr) (h : Half) (s : State) : State :=
  if inVgaWindow s.cfg a then vgaWrite a (h.setWidth 32) 2 s
  else
    let r := read32 (alignAddr a) s
    write32 (alignAddr a) (insert16 r.1 a h) r.2

/-- MemWrite(a, 4, v) (R91): no read phase. -/
def memWrite32 (a : Addr) (v : Word) (s : State) : State :=
  if inVgaWindow s.cfg a then vgaWrite a v 4 s else write32 (alignAddr a) v s

/-- The result of an MMIO read: DATA[31:0]. -/
def dataResponse (r : Word × State) : Response × State := (.data r.1, r.2)

/-- MMIO_RD8 (R86). -/
def execMmioRd8 (a : Addr) (s : State) : Host.Outcome State Fault Refusal :=
  accept s fun s => dataResponse (memRead8 a s)

/-- MMIO_RD16 (R87). -/
def execMmioRd16 (a : Addr) (s : State) : Host.Outcome State Fault Refusal :=
  accept s fun s => dataResponse (memRead16 a s)

/-- MMIO_RD32 (R88). -/
def execMmioRd32 (a : Addr) (s : State) : Host.Outcome State Fault Refusal :=
  accept s fun s => dataResponse (memRead32 a s)

/-- MMIO_WR8 (R89). -/
def execMmioWr8 (a : Addr) (b : Byte) (s : State) : Host.Outcome State Fault Refusal :=
  accept s fun s => (.none, memWrite8 a b s)

/-- MMIO_WR16 (R90). -/
def execMmioWr16 (a : Addr) (h : Half) (s : State) : Host.Outcome State Fault Refusal :=
  accept s fun s => (.none, memWrite16 a h s)

/-- MMIO_WR32 (R91). -/
def execMmioWr32 (a : Addr) (v : Word) (s : State) : Host.Outcome State Fault Refusal :=
  accept s fun s => (.none, memWrite32 a v s)

end Sys2Proof.Machine
end

