-- ==== Sys2Proof/Machine/Rma.lean ====
section
/-! DEFINITION. The real-mode access shifter (43_rma.md R107 to R116): RMA_IN, RMA_OUT, RMA_MODE_WR. -/

namespace Sys2Proof.Machine

/-- RMA_MODE[RMA_TXN_BIT] (R108). -/
def txnMode (s : State) : Bool := s.rmaMode.getLsbD s.cfg.rmaTxnBit.val

/-- RMA_MODE[RMA_AUTOINC_BIT] (R108). -/
def autoIncMode (s : State) : Bool := s.rmaMode.getLsbD s.cfg.rmaAutoincBit.val

/-- The byte at an RMA target address (R109, R111). -/
def rmaReadByte (t : Word) (s : State) : Byte × State :=
  match rmaTarget t with
  | .register a =>
    let r := memRead8 a s
    (r.1.setWidth 8, r.2)
  | .vram off =>
    let r := s.ask (.vramRead8 off)
    (r.1.setWidth 8, r.2)

/-- The 32-bit write at an RMA target address (R109, R114). -/
def rmaWriteWord (t v : Word) (s : State) : State :=
  match rmaTarget t with
  | .register a => memWrite32 a v s
  | .vram off => s.emit (.vramWrite32 off v)

/-- The pseudocode of RMA_IN (R111). -/
def rmaRead (p : Byte) (s : State) : Byte × State :=
  match rmaPort p with
  | .low k => (lane s.cfg.rmaSignature k.val, s)
  | .data k => if txnMode s then rmaReadByte (s.rmaAddr + BitVec.ofNat 32 k.val) s else (0, s)
  | .undefined => (0, s)

/-- `RMA_ADDR <- (RMA_ADDR + 4) mod 2^32` under the auto-increment mode (R114). -/
def autoIncrement (s : State) : State :=
  if autoIncMode s then { s with rmaAddr := s.rmaAddr + 4 } else s

/-- RmaTxn() (R114). -/
def rmaTxn (s : State) : State := autoIncrement (rmaWriteWord s.rmaAddr s.rmaData s)

/-- The count of data-port writes under FOURTH_BYTE (R113): at 4 it returns to 0. -/
def nextDcount (n : Fin 5) : Fin 5 := if 4 ≤ n.val + 1 then 0 else Fin.ofNat 5 (n.val + 1)

/-- Trigger(p) (R113), for the data port of lane k: whether it completes a transaction, and the state with the count. -/
def trigger (k : Fin 4) (s : State) : Bool × State :=
  match s.cfg.rmaTrigger with
  | .port0B => (decide (k = 3), s)
  | .fourthByte => (decide (4 ≤ s.rmaDcount.val + 1), { s with rmaDcount := nextDcount s.rmaDcount })

/-- A byte accepted at an address port (R112). -/
def rmaAddrByte (k : Fin 4) (b : Byte) (s : State) : State :=
  { s with rmaSave := s.rmaSave.set k.val b, rmaAddr := setLane s.rmaAddr k.val b }

/-- A byte accepted at a data port, before Trigger (R112). -/
def rmaDataByte (k : Fin 4) (b : Byte) (s : State) : State :=
  { s with rmaSave := s.rmaSave.set k.val b, rmaData := setLane s.rmaData k.val b }

/-- `if Trigger(p): RmaTxn()` (R112), on Trigger's answer. -/
def completeIf (done : Bool) (s : State) : State := if done then rmaTxn s else s

/-- The pseudocode of RMA_OUT (R112). -/
def rmaWrite (p b : Byte) (s : State) : State :=
  if txnMode s then
    match rmaPort p with
    | .low k => rmaAddrByte k b s
    | .data k => completeIf (trigger k (rmaDataByte k b s)).1 (trigger k (rmaDataByte k b s)).2
    | .undefined => s
  else s

/-- RMA_IN (R111). -/
def execRmaIn (p : Byte) (s : State) : Host.Outcome State Fault Refusal :=
  accept s fun s => (.byte (rmaRead p s).1, (rmaRead p s).2)

/-- RMA_OUT (R112). -/
def execRmaOut (p b : Byte) (s : State) : Host.Outcome State Fault Refusal :=
  accept s fun s => (.none, rmaWrite p b s)

/-- RMA_MODE_WR (R115). -/
def execRmaModeWr (b : Byte) (s : State) : Host.Outcome State Fault Refusal :=
  accept s fun s => (.none, { s with rmaMode := b })

end Sys2Proof.Machine
end

