-- ==== Sys2Proof/Machine/Dispatch.lean ====
section
/-! DEFINITION. One arm per transaction: the command map of 30_encoding.md R62 to its meaning. -/

namespace Sys2Proof.Machine

def exec (i : Instr) (s : State) : Host.Outcome State Fault Refusal :=
  match i with
  | .mmioRd8 addr => Sys2Proof.Machine.execMmioRd8 addr s
  | .mmioRd16 addr => Sys2Proof.Machine.execMmioRd16 addr s
  | .mmioRd32 addr => Sys2Proof.Machine.execMmioRd32 addr s
  | .mmioWr8 addr b => Sys2Proof.Machine.execMmioWr8 addr b s
  | .mmioWr16 addr h => Sys2Proof.Machine.execMmioWr16 addr h s
  | .mmioWr32 addr v => Sys2Proof.Machine.execMmioWr32 addr v s
  | .rmaIn port => Sys2Proof.Machine.execRmaIn port s
  | .rmaOut port b => Sys2Proof.Machine.execRmaOut port b s
  | .rmaModeWr b => Sys2Proof.Machine.execRmaModeWr b s
  | .tickVclk elapsedUs => Sys2Proof.Machine.execTickVclk elapsedUs s
  | .tickMclk elapsedUs => Sys2Proof.Machine.execTickMclk elapsedUs s
  | .raiseIntr src mask => Sys2Proof.Machine.execRaiseIntr src mask s
  | .grPending g0 g1 => Sys2Proof.Machine.execGrPending g0 g1 s
  | .reset => Sys2Proof.Machine.execReset s
  | .teardown => Sys2Proof.Machine.execTeardown s

end Sys2Proof.Machine
end

