-- ==== Sys2Proof/Decode.lean ====
section
/-! DEFINITION. Decoding a transaction record (30_encoding.md R60 to R65), total, refusing by name; and the encoder,
written from the same tables. -/

namespace Sys2Proof

/-- CMD, bits 7:0 of T (R60). -/
def Txn.cmd (t : Txn) : Byte := t.packed.extractLsb' 0 8

/-- ADDR, bits 39:8 of T (R60). -/
def Txn.addr (t : Txn) : Word := t.packed.extractLsb' 8 32

/-- DATA, bits 71:40 of T (R60). -/
def Txn.data (t : Txn) : Word := t.packed.extractLsb' 40 32

/-- An MMIO address is ADDR[23:0] (R61). -/
def Txn.mmioAddr (t : Txn) : Addr := t.addr.setWidth 24

/-- An RMA port index is ADDR[7:0] (R61). -/
def Txn.port (t : Txn) : Byte := t.addr.setWidth 8

/-- The RMA byte and the value of an 8-bit MMIO write are DATA[7:0] (R61). -/
def Txn.data8 (t : Txn) : Byte := t.data.setWidth 8

/-- The value of a 16-bit MMIO write is DATA[15:0] (R61). -/
def Txn.data16 (t : Txn) : Half := t.data.setWidth 16

/-- The pair a RAISE_INTR source code selects; codes 5 to 7 are illegal (R63). -/
def raiseSourceOf (code : BitVec 3) : Except Illegal PairSource :=
  match code.toNat with
  | 0 => .ok .pme
  | 1 => .ok .pfifo
  | 2 => .ok .pvideo
  | 3 => .ok .ptimer
  | 4 => .ok .pbus
  | _ => .error (.raiseSource code)

/-- The source code of a pair (R63). -/
def raiseCode : PairSource → BitVec 3
  | .pme => 0
  | .pfifo => 1
  | .pvideo => 2
  | .ptimer => 3
  | .pbus => 4

/-- A tick is legal only with a positive ELAPSED_US (R64). -/
def decodeTick (make : Q → Instr) (e : Q) : Except Illegal Instr :=
  if positiveElapsed e then .ok (make e) else .error .nonPositiveElapsed

/-- RAISE_INTR: the source from ADDR[2:0], the mask from DATA (R60, R63). -/
def decodeRaise (t : Txn) : Except Illegal Instr :=
  match raiseSourceOf (t.addr.setWidth 3) with
  | .ok S => .ok (.raiseIntr S t.data)
  | .error e => .error e

/-- The command map of R62. -/
def decode (t : Txn) : Except Illegal Instr :=
  match t.cmd.toNat with
  | 0x00 => .ok (.mmioRd8 t.mmioAddr)
  | 0x01 => .ok (.mmioRd16 t.mmioAddr)
  | 0x02 => .ok (.mmioRd32 t.mmioAddr)
  | 0x04 => .ok (.mmioWr8 t.mmioAddr t.data8)
  | 0x05 => .ok (.mmioWr16 t.mmioAddr t.data16)
  | 0x06 => .ok (.mmioWr32 t.mmioAddr t.data)
  | 0x10 => .ok (.rmaIn t.port)
  | 0x11 => .ok (.rmaOut t.port t.data8)
  | 0x12 => .ok (.rmaModeWr t.data8)
  | 0x20 => decodeTick .tickVclk t.elapsedUs
  | 0x21 => decodeTick .tickMclk t.elapsedUs
  | 0x30 => decodeRaise t
  | 0x31 => .ok (.grPending (t.addr.getLsbD 0) (t.addr.getLsbD 1))
  | 0xF0 => .ok .reset
  | 0xF1 => .ok .teardown
  | _ => .error (.unlistedCommand t.cmd)

/-- The packed part of format T from its three fields (R60). -/
def packT (cmd : Byte) (addr data : Word) : BitVec 72 :=
  data.setWidth 72 <<< 40 ||| addr.setWidth 72 <<< 8 ||| cmd.setWidth 72

/-- The command code of an instruction (R62). -/
def commandCode : Instr → Byte
  | .mmioRd8 _ => 0x00
  | .mmioRd16 _ => 0x01
  | .mmioRd32 _ => 0x02
  | .mmioWr8 _ _ => 0x04
  | .mmioWr16 _ _ => 0x05
  | .mmioWr32 _ _ => 0x06
  | .rmaIn _ => 0x10
  | .rmaOut _ _ => 0x11
  | .rmaModeWr _ => 0x12
  | .tickVclk _ => 0x20
  | .tickMclk _ => 0x21
  | .raiseIntr _ _ => 0x30
  | .grPending _ _ => 0x31
  | .reset => 0xF0
  | .teardown => 0xF1

/-- The ADDR field of an instruction, its ignored bits 0 (R60, R61). -/
def addrField : Instr → Word
  | .mmioRd8 a | .mmioRd16 a | .mmioRd32 a => a.setWidth 32
  | .mmioWr8 a _ | .mmioWr16 a _ | .mmioWr32 a _ => a.setWidth 32
  | .rmaIn p | .rmaOut p _ => p.setWidth 32
  | .raiseIntr S _ => (raiseCode S).setWidth 32
  | .grPending g0 g1 => (BitVec.ofBool g1 ++ BitVec.ofBool g0).setWidth 32
  | .rmaModeWr _ | .tickVclk _ | .tickMclk _ | .reset | .teardown => 0

/-- The DATA field of an instruction, its ignored bits 0 (R60, R61). -/
def dataField : Instr → Word
  | .mmioWr8 _ b | .rmaOut _ b | .rmaModeWr b => b.setWidth 32
  | .mmioWr16 _ h => h.setWidth 32
  | .mmioWr32 _ v => v
  | .raiseIntr _ mask => mask
  | .mmioRd8 _ | .mmioRd16 _ | .mmioRd32 _ | .rmaIn _ | .tickVclk _ | .tickMclk _ => 0
  | .grPending _ _ | .reset | .teardown => 0

/-- The ELAPSED_US operand: a tick's own, 0 for the commands that carry none (R60). -/
def elapsedField : Instr → Q
  | .tickVclk e | .tickMclk e => e
  | .mmioRd8 _ | .mmioRd16 _ | .mmioRd32 _ | .mmioWr8 _ _ | .mmioWr16 _ _ | .mmioWr32 _ _ => 0
  | .rmaIn _ | .rmaOut _ _ | .rmaModeWr _ | .raiseIntr _ _ | .grPending _ _ | .reset | .teardown => 0

/-- The record of an instruction (R60 to R63). -/
def encode (i : Instr) : Txn := ⟨packT (commandCode i) (addrField i) (dataField i), elapsedField i⟩

/-- The record whose low `nbits` packed bits are `w` and whose other packed bits are 0. The opcode table gives no bits to
ELAPSED_US, which is not packed (R60): the record offers 1 µs, so that a tick is legal (log entry 9). -/
def tableTxn (nbits w : Nat) : Txn := ⟨BitVec.ofNat 72 (w % 2 ^ nbits), 1⟩

/-- What the decoder reads from a record whose packed bits are `w`, bit 0 least significant. -/
def decodeTableWord (nbits w : Nat) : Option Instr :=
  match decode (tableTxn nbits w) with
  | .ok i => some i
  | .error _ => none

end Sys2Proof
end

