-- ==== Sys2Proof/Machine/Fetch.lean ====
section
/-! DEFINITION. Accepting the next transaction that the environment offers (R18, R121; log entry 1): the head of the inbox,
decoded. -/

namespace Sys2Proof.Machine

/-- What the environment's next offer comes to. -/
inductive Fetched where
  | run (i : Instr) (s : State)
  | stuck (f : Fault)
  | refuse (r : Refusal)
deriving DecidableEq, Repr

/-- An illegal record: refused and the state marked (R64), but stuck while DEAD = 1, when only RESET has a step (R120; log entry 8). -/
def fetchIllegal (e : Illegal) (s : State) : Fetched :=
  if s.dead then .stuck .stuckAfterTeardown else .refuse (refuseIllegal e s)

/-- The head of the inbox, taken off and decoded; an illegal record is taken off too. A refused state and an ill-formed configuration give no step (R64, R11). -/
def fetch (s : State) : Fetched :=
  if s.refused then .refuse .refusedForGood
  else if s.cfg.wellFormed then
    match s.inbox with
    | [] => .stuck .endOfRun
    | t :: rest =>
      match decode t with
      | .ok i => .run i { s with inbox := rest }
      | .error e => fetchIllegal e { s with inbox := rest }
  else .refuse .illFormedConfiguration

/-- The environment offers one more transaction, before the ones already offered. -/
def offer (t : Txn) (s : State) : State := { s with inbox := t :: s.inbox }

end Sys2Proof.Machine
end

