-- ==== Sys2Proof/Machine/Step.lean ====
section
/-! DEFINITION. One step: the environment's next transaction runs to completion (10_state.md R18). -/

namespace Sys2Proof.Machine

/-- One transaction (R18). -/
def step (s : State) : Host.Outcome State Fault Refusal :=
  match fetch s with
  | .run i s' => exec i s'
  | .stuck f => .fault f
  | .refuse r => .refused r

/-- The environment offers the transaction whose packed bits are `w` (log entries 1 and 9): `step` takes exactly it. -/
def State.withFetchWord (s : State) (nbits w : Nat) : State := offer (tableTxn nbits w) s

end Sys2Proof.Machine
end

