-- ==== Sys2Proof/Safety.lean ====
section
/-! DEFINITION. The terms the statements are written in: which bits a command uses, which register an address reaches and
what that register reads as, answers taken in a row, runs of several transactions, and the invariants of the block. -/

namespace Sys2Proof

open Sys2Proof.Machine

/-! ## Records -/

/-- The command codes of R62. -/
def listedCommands : List Byte :=
  [0x00, 0x01, 0x02, 0x04, 0x05, 0x06, 0x10, 0x11, 0x12, 0x20, 0x21, 0x30, 0x31, 0xF0, 0xF1]

/-- The packed bits a command uses (R60, R61); every other bit is ignored (R65). -/
def usedBits : Instr → BitVec 72
  | .mmioRd8 _ | .mmioRd16 _ | .mmioRd32 _ => 0x0000000000FFFFFFFF
  | .mmioWr8 _ _ => 0x000000FF00FFFFFFFF
  | .mmioWr16 _ _ => 0x0000FFFF00FFFFFFFF
  | .mmioWr32 _ _ => 0xFFFFFFFF00FFFFFFFF
  | .rmaIn _ => 0x00000000000000FFFF
  | .rmaOut _ _ => 0x000000FF000000FFFF
  | .rmaModeWr _ => 0x000000FF00000000FF
  | .tickVclk _ | .tickMclk _ | .reset | .teardown => 0x0000000000000000FF
  | .raiseIntr _ _ => 0xFFFFFFFF00000007FF
  | .grPending _ _ => 0x0000000000000003FF

/-- A tick carries ELAPSED_US (R60). -/
def carriesElapsed : Instr → Bool
  | .tickVclk _ | .tickMclk _ => true
  | .mmioRd8 _ | .mmioRd16 _ | .mmioRd32 _ | .mmioWr8 _ _ | .mmioWr16 _ _ | .mmioWr32 _ _ => false
  | .rmaIn _ | .rmaOut _ _ | .rmaModeWr _ | .raiseIntr _ _ | .grPending _ _ | .reset | .teardown => false

/-- The transactions that only read: MMIO reads and RMA_IN. -/
def isRead : Instr → Bool
  | .mmioRd8 _ | .mmioRd16 _ | .mmioRd32 _ | .rmaIn _ => true
  | .mmioWr8 _ _ | .mmioWr16 _ _ | .mmioWr32 _ _ | .rmaOut _ _ | .rmaModeWr _ => false
  | .tickVclk _ | .tickMclk _ | .raiseIntr _ _ | .grPending _ _ | .reset | .teardown => false

/-- The address of an MMIO write. -/
def writesAt : Instr → Option Addr
  | .mmioWr8 a _ | .mmioWr16 a _ | .mmioWr32 a _ => some a
  | .mmioRd8 _ | .mmioRd16 _ | .mmioRd32 _ | .rmaIn _ | .rmaOut _ _ | .rmaModeWr _ => none
  | .tickVclk _ | .tickMclk _ | .raiseIntr _ _ | .grPending _ _ | .reset | .teardown => none

/-! ## Addresses and registers -/

/-- The address lies in the range of the entry, both ends included (R43). -/
abbrev RangeEntry.Holds (e : RangeEntry) (a : Nat) : Prop := e.start ≤ a ∧ a ≤ e.finish

/-- The aligned address of an access lies at the register r, off the VGA window, in an open subsystem. -/
abbrev Reaches (s : State) (a : Addr) (r : Reg) : Prop :=
  inVgaWindow s.cfg a = false ∧ route s (alignAddr a) = .register r

/-- An access that the block answers with 0 and discards: no range, a closed gate, or no such register (R131). -/
abbrev Benign (s : State) (a : Addr) : Prop :=
  inVgaWindow s.cfg a = false ∧
    (route s (alignAddr a) = .unmapped ∨
      (∃ t, route s (alignAddr a) = .gated t) ∨ ∃ t, route s (alignAddr a) = .unknown t)

/-- What a register reads as: the Read lines of R76 to R83, R95 and R103 to R106. -/
def registerWord (s : State) : Reg → Word
  | .pmcBoot0 => s.cfg.bootId
  | .pmcIntr0 => aggregate s
  | .pmcIntrEn0 =>
    (if s.globalEnHw then BitVec.twoPow 32 s.cfg.globalEnHwBit.val else 0) |||
      (if s.globalEnSw then BitVec.twoPow 32 s.cfg.globalEnSwBit.val else 0)
  | .pmcEnable => s.pmcEnable
  | .intr S => (s.pair S).status
  | .intrEn S => (s.pair S).enable
  | .ptimerNumerator => s.num
  | .ptimerDenominator => s.den
  | .ptimerTime0 => BitVec.ofNat 32 s.time.toNat
  | .ptimerTime1 => BitVec.ofNat 32 (s.time.toNat / 2 ^ 32)
  | .ptimerAlarm0 => s.alarm
  | .pfbConfig0 => s.pfbConfig0
  | .pextdevBoot0 => s.cfg.straps
  | .coeff g =>
    BitVec.ofNat 32 ((s.divider g).p.toNat * 65536 + (s.divider g).n.toNat * 256 + (s.divider g).m.toNat)

/-- The registers whose write rule stores its value, with the bits it stores (R93): the dividers keep their low 19 bits. -/
def storedBits : Reg → Option Word
  | .pmcEnable | .intrEn _ | .pfbConfig0 | .ptimerNumerator | .ptimerTime0 | .ptimerTime1 | .ptimerAlarm0 =>
    some 0xFFFFFFFF
  | .coeff _ => some 0x0007FFFF
  | .pmcBoot0 | .pmcIntr0 | .pmcIntrEn0 | .intr _ | .ptimerDenominator | .pextdevBoot0 => none

/-- The address and its aligned base are both off the VGA window. -/
abbrev OffWindow (s : State) (a : Addr) : Prop :=
  inVgaWindow s.cfg a = false ∧ inVgaWindow s.cfg (alignAddr a) = false

/-! ## Collaborators -/

/-- The k-th answer from here: supplied by the environment, or free. -/
def answerAt (s : State) (k : Nat) : Word :=
  if h : k < s.answers.length then s.answers[k] else Config.freeAnswer (s.drawCount + (k - s.answers.length))

/-- The state once `calls` have been made, k of them read calls whose answers were taken. -/
def afterCalls (s : State) (calls : List Call) (k : Nat) : State :=
  { s with
    calls := s.calls ++ calls
    answers := s.answers.drop k
    drawCount := s.drawCount + (k - s.answers.length) }

/-- A request on the host-timer port. -/
def isTimerCall : Call → Bool
  | .timerCreate _ _ | .timerStart _ | .timerSetPeriod _ _ | .timerDestroy _ => true
  | .vgaIn _ | .vgaOut _ _ | .vramRead8 _ | .vramWrite32 _ _ | .extRead32 _ _ | .extWrite32 _ _ _ => false
  | .irqAssert | .irqDeassert => false

/-! ## Runs -/

/-- Several transactions in a row, up to the first stop. -/
def execAll : List Instr → State → Host.Outcome State Fault Refusal
  | [], s => .next s
  | i :: rest, s =>
    match exec i s with
    | .next t => execAll rest t
    | .fault f => .fault f
    | .refused r => .refused r

/-! ## Invariants -/

/-- AGG is a pure function of the current pairs: no stale bit (R124). -/
abbrev AggFresh (s : State) : Prop := s.agg = aggregate s

/-- The gate that Classify selects is open and something is pending. -/
abbrev LineJustified (s : State) : Prop :=
  s.agg ≠ 0 ∧ bothGatesClosed s = false ∧ gateOpen s (classify s.cfg.irqClass s.agg) = true

/-- What holds of LINE whatever SUPPRESS_MODE is: low with nothing pending or both gates closed, high when justified (R124, R125). -/
abbrev LineLaw (s : State) : Prop :=
  (s.agg = 0 → s.line = false) ∧ (bothGatesClosed s = true → s.line = false) ∧ (LineJustified s → s.line = true)

/-- The source's line property (R129): LINE = 1 exactly when it is justified. -/
abbrev LineExact (s : State) : Prop := s.line = true ↔ LineJustified s

/-- A host timer runs exactly while it exists, and then has a positive period (R32, R98). -/
abbrev TimerSound (t : HostTimer) : Prop := t.running = t.created ∧ (t.created = true → 0 < t.period)

/-- DEN is never 0 (R35), the timers are sound (R32), fewer than four data bytes are counted (R113), and the software source
is never pending under SW_TRIGGER = NONE (R128). -/
abbrev RecordsSound (s : State) : Prop :=
  s.den ≠ 0 ∧ TimerSound s.vclkTimer ∧ TimerSound s.mclkTimer ∧ s.rmaDcount.val < 4 ∧
    (s.cfg.swTrigger = .none → s.swStatus = false)

end Sys2Proof
end

