-- ==== Sys2Proof/Certificates/Slice0/Obligations.lean ====
section
/-! DEFINITION. The statements for the provers. Each names the rules of spec/ it rests on; OBLIGATIONS.json says which it
formalises whole. -/

open Sys2Proof Sys2Proof.Machine

/-! ## Records and steps -/

/-- R60 to R63: decoding the record of a legal transaction gives the transaction, at every operand value. -/
def Obligations.EncodeThenDecode : Prop :=
  ∀ i : Instr, i.wellFormed = true → decode (encode i) = .ok i

/-- R64, R65: a record that decodes is a legal transaction's own record in every bit the command uses. -/
def Obligations.DecodedRecordIsCanonical : Prop :=
  ∀ (t : Txn) (i : Instr), decode t = .ok i →
    i.wellFormed = true ∧ t.packed &&& usedBits i = (encode i).packed ∧
      (carriesElapsed i = true → (encode i).elapsedUs = t.elapsedUs)

/-- R65: 'Two transactions that differ only in ignored bits have the same effect'. -/
def Obligations.IgnoredBitsHaveNoEffect : Prop :=
  ∀ (t u : Txn) (i : Instr), decode t = .ok i → t.packed &&& usedBits i = u.packed &&& usedBits i →
    (carriesElapsed i = true → t.elapsedUs = u.elapsedUs) → decode u = .ok i

/-- R64: the illegal records are exactly an unlisted CMD, a RAISE_INTR source code of 5 to 7, a tick without positive ELAPSED_US. -/
def Obligations.IllegalRecordsAreExactlyThese : Prop :=
  ∀ t : Txn, (∃ e, decode t = .error e) ↔
    (t.packed.extractLsb' 0 8 ∉ listedCommands ∨
      (t.packed.extractLsb' 0 8 = 0x30 ∧ 5 ≤ (t.packed.extractLsb' 8 3).toNat) ∨
      ((t.packed.extractLsb' 0 8 = 0x20 ∨ t.packed.extractLsb' 0 8 = 0x21) ∧ t.elapsedUs ≤ 0))

/-- 95_test_vectors.md: one record of each family, written out, decodes to its transaction. -/
def Obligations.WorkedRecordsDecode : Prop :=
  decode ⟨0x000000000010020202, 0⟩ = .ok (.mmioRd32 0x100202) ∧
  decode ⟨0x000000800000010304, 0⟩ = .ok (.mmioWr8 0x000103 0x80) ∧
  decode ⟨0x000000340000000A11, 0⟩ = .ok (.rmaOut 0x0A 0x34) ∧
  decode ⟨0x000000000000000021, 7 / 3⟩ = .ok (.tickMclk (7 / 3)) ∧
  decode ⟨0x000000100000000130, 0⟩ = .ok (.raiseIntr .pfifo 0x10) ∧
  decode ⟨0x000000000000000131, 0⟩ = .ok (.grPending true false) ∧
  decode ⟨0x0000000000000000F1, 0⟩ = .ok .teardown ∧
  decode ⟨0x000000010000000530, 0⟩ = .error (.raiseSource 5) ∧
  decode ⟨0x000000000000000003, 0⟩ = .error (.unlistedCommand 0x03)

/-- R41: every MMIO address is reduced to 24 bits before dispatch, from the MMIO port and from the RMA transaction. -/
def Obligations.AddressesAreMaskedTo24Bits : Prop :=
  (∀ (addr data : Word) (e : Q),
    decode ⟨packT 0x00 addr data, e⟩ = .ok (.mmioRd8 (BitVec.ofNat 24 (addr.toNat % 2 ^ 24))) ∧
    decode ⟨packT 0x01 addr data, e⟩ = .ok (.mmioRd16 (BitVec.ofNat 24 (addr.toNat % 2 ^ 24))) ∧
    decode ⟨packT 0x02 addr data, e⟩ = .ok (.mmioRd32 (BitVec.ofNat 24 (addr.toNat % 2 ^ 24))) ∧
    decode ⟨packT 0x04 addr data, e⟩ =
      .ok (.mmioWr8 (BitVec.ofNat 24 (addr.toNat % 2 ^ 24)) (BitVec.ofNat 8 data.toNat)) ∧
    decode ⟨packT 0x05 addr data, e⟩ =
      .ok (.mmioWr16 (BitVec.ofNat 24 (addr.toNat % 2 ^ 24)) (BitVec.ofNat 16 data.toNat)) ∧
    decode ⟨packT 0x06 addr data, e⟩ = .ok (.mmioWr32 (BitVec.ofNat 24 (addr.toNat % 2 ^ 24)) data)) ∧
  ∀ (t : Word) (a : Addr), rmaTarget t = .register a → a = BitVec.ofNat 24 (t.toNat % 2 ^ 24)

/-- R18: the head of the inbox, decoded, runs to completion. That the environment's choice stands at the head of an inbox is
the model's own form (log entry 1), and so are the two premises that step checks, the REFUSED mark (log entry 7) and the
configuration (log entries 2 and 11). -/
def Obligations.StepRunsTheDecodedTransaction : Prop :=
  ∀ (s : State) (t : Txn) (rest : List Txn) (i : Instr),
    s.refused = false → s.cfg.wellFormed = true → s.inbox = t :: rest → decode t = .ok i →
    step s = exec i { s with inbox := rest }

/-- R11, R64, R120, R121: every way in which `step` stops before a transaction runs, by name. The model's choices in it: the
inbox (log entry 1), the refusal at every step under an ill-formed configuration, which R11 refuses at construction (log entry
2), the conditions of well-formedness beyond R11's four (log entry 11), and an illegal record while DEAD = 1 (log entry 8). The
refusal of an illegal transaction leaves the state marked refused for good; that it carries the marked state, with the record
taken off the inbox and nothing else changed, is the model's form (log entry 7). -/
def Obligations.StepStopsByName : Prop :=
  (∀ s : State, s.refused = true → step s = .refused .refusedForGood) ∧
  (∀ s : State, s.refused = false → s.cfg.wellFormed = false → step s = .refused .illFormedConfiguration) ∧
  (∀ s : State, s.refused = false → s.cfg.wellFormed = true → s.inbox = [] → step s = .fault .endOfRun) ∧
  (∀ (s : State) (t : Txn) (rest : List Txn) (e : Illegal),
    s.refused = false → s.cfg.wellFormed = true → s.inbox = t :: rest → decode t = .error e →
    step s = if s.dead then .fault .stuckAfterTeardown
      else .refused (.illegalTransaction e { s with inbox := rest, refused := true })) ∧
  (∀ (s marked : State) (why : Illegal), step s = .refused (.illegalTransaction why marked) →
    marked = { s with inbox := s.inbox.tail, refused := true } ∧ step marked = .refused .refusedForGood)

/-- R120: while DEAD = 1 every transaction except RESET is stuck. -/
def Obligations.DeadBlockTakesOnlyReset : Prop :=
  ∀ (i : Instr) (s : State), s.dead = true → i ≠ .reset → exec i s = .fault .stuckAfterTeardown

/-- R59, R131, R141: a legal transaction completes on a block that is not torn down, RESET always; and DEAD is set by TEARDOWN
alone (R119, R120: spec decision D34). That it never changes the parameters, what is still offered or the REFUSED mark, and only
adds calls, RESET included, is the model's choice (log entries 1, 2, 5, 7 and 12). -/
def Obligations.LegalTransactionsComplete : Prop :=
  ∀ (i : Instr) (s : State), i.wellFormed = true → (s.dead = false ∨ i = .reset) →
    ∃ t, exec i s = .next t ∧ t.cfg = s.cfg ∧ t.inbox = s.inbox ∧ t.refused = s.refused ∧
      s.calls <+: t.calls ∧ (t.dead = true ↔ i = .teardown)

/-! ## The arbiter -/

/-- R70: the first range that holds the aligned address is selected; overlapping ranges are ill-formed, so the order is not
observable; outside every range a read returns 0 and a write is discarded. -/
def Obligations.ArbiterTakesTheFirstRange : Prop :=
  (∀ (c : Config) (a : Addr) (pre post : List RangeEntry) (e : RangeEntry),
    c.ranges = pre ++ e :: post → (∀ f ∈ pre, ¬ f.Holds a.toNat) → e.Holds a.toNat →
    findRange c a = some e.target) ∧
  (∀ (c : Config) (a : Addr) (rs : List RangeEntry),
    c.wellFormed = true → c.ranges.Perm rs → findRange { c with ranges := rs } a = findRange c a) ∧
  (∀ (c : Config) (pre mid post : List RangeEntry) (e f : RangeEntry) (a : Nat),
    c.ranges = pre ++ e :: (mid ++ f :: post) → e.Holds a → f.Holds a → c.wellFormed = false) ∧
  (∀ (s : State) (a : Addr) (v : Word),
    s.dead = false → inVgaWindow s.cfg a = false → (∀ e ∈ s.cfg.ranges, ¬ e.Holds (alignAddr a).toNat) →
    exec (.mmioRd32 a) s = .next { s with response := .data 0 } ∧
    exec (.mmioWr32 a v) s = .next { s with response := .none })

/-- R73 (and R70, R71 for the other two benign classes of R131): at every width a read returns 0 and a write is a no-op. -/
def Obligations.BenignAccessesReadZeroAndDiscard : Prop :=
  ∀ (s : State) (a : Addr), s.dead = false → Benign s a →
    exec (.mmioRd8 a) s = .next { s with response := .data 0 } ∧
    exec (.mmioRd16 a) s = .next { s with response := .data 0 } ∧
    exec (.mmioRd32 a) s = .next { s with response := .data 0 } ∧
    (∀ b, exec (.mmioWr8 a b) s = .next { s with response := .none }) ∧
    (∀ h, exec (.mmioWr16 a h) s = .next { s with response := .none }) ∧
    (∀ v, exec (.mmioWr32 a v) s = .next { s with response := .none })

/-- R43, R75 under the default RANGES, REGMAP and VGA_WINDOW (log entry 3): each register stands at its offset, at every byte
address of its word, whatever the gate (PFIFO) leaves open. -/
def Obligations.DefaultMapReachesEveryRegister : Prop :=
  ∀ (s : State) (k : Fin 4),
    s.cfg.ranges = defaultRanges → s.cfg.regmap = defaultRegmap → s.cfg.vgaWindows = defaultVgaWindows →
    s.cfg.gated = [⟨.pfifo, 8⟩] →
    (∀ p ∈ ([(0x000000, .pmcBoot0), (0x000100, .pmcIntr0), (0x000140, .pmcIntrEn0), (0x000200, .pmcEnable),
        (0x001100, .intr .pbus), (0x001140, .intrEn .pbus), (0x009100, .intr .ptimer), (0x009140, .intrEn .ptimer),
        (0x009200, .ptimerNumerator), (0x009210, .ptimerDenominator), (0x009400, .ptimerTime0),
        (0x009410, .ptimerTime1), (0x009420, .ptimerAlarm0), (0x100200, .pfbConfig0), (0x101000, .pextdevBoot0),
        (0x200100, .intr .pme), (0x200140, .intrEn .pme), (0x680100, .intr .pvideo), (0x680140, .intrEn .pvideo),
        (0x680504, .coeff .mclk), (0x680508, .coeff .vclk)] : List (Nat × Reg)),
      Reaches s (BitVec.ofNat 24 (p.1 + k.val)) p.2) ∧
    (∀ p ∈ ([(0x002100, .intr .pfifo), (0x002140, .intrEn .pfifo)] : List (Nat × Reg)),
      if s.pmcEnable.getLsbD 8 then Reaches s (BitVec.ofNat 24 (p.1 + k.val)) p.2
      else route s (alignAddr (BitVec.ofNat 24 (p.1 + k.val))) = .gated .pfifo)

/-- R74: an access in an EXT range is forwarded with the aligned address; the read value is the collaborator's answer, a free
value where none was supplied (log entry 4); a narrow write asks, then writes (R89). -/
def Obligations.ExternalAccessesAreForwarded : Prop :=
  ∀ (s : State) (a : Addr) (x : ExtSubsys),
    s.dead = false → inVgaWindow s.cfg a = false → route s (alignAddr a) = .external x →
    exec (.mmioRd32 a) s =
      .next { afterCalls s [.extRead32 x (alignAddr a)] 1 with response := .data (answerAt s 0) } ∧
    exec (.mmioRd8 a) s =
      .next { afterCalls s [.extRead32 x (alignAddr a)] 1 with
              response := .data (BitVec.ofNat 32 ((answerAt s 0).toNat / 2 ^ (8 * (a.toNat % 4)) % 2 ^ 8)) } ∧
    (∀ v, exec (.mmioWr32 a v) s =
      .next { s with calls := s.calls ++ [.extWrite32 x (alignAddr a) v], response := .none }) ∧
    (∀ b, exec (.mmioWr8 a b) s =
      .next { afterCalls s [.extRead32 x (alignAddr a), .extWrite32 x (alignAddr a) (insert8 (answerAt s 0) a b)] 1 with
              response := .none })

/-! ## The composer -/

/-- R86 to R88 with the Read lines of R76, R78 to R83, R95, R103 to R106: an MMIO read returns the lanes of its register
from a & 3 upward and changes nothing else. -/
def Obligations.ReadsReturnTheRegistersLanes : Prop :=
  ∀ (s : State) (a : Addr) (r : Reg), s.dead = false → Reaches s a r → r ≠ .pmcIntr0 →
    exec (.mmioRd8 a) s =
      .next { s with
              response := .data (BitVec.ofNat 32 ((registerWord s r).toNat / 2 ^ (8 * (a.toNat % 4)) % 2 ^ 8)) } ∧
    exec (.mmioRd16 a) s =
      .next { s with
              response := .data (BitVec.ofNat 32 ((registerWord s r).toNat / 2 ^ (8 * (a.toNat % 4)) % 2 ^ 16)) } ∧
    exec (.mmioRd32 a) s = .next { s with response := .data (registerWord s r) }

/-- R77, R124: a read of PMC_INTR_0 returns a fresh aggregate and stores it; with both gates closed it drives the line low,
otherwise it leaves the line alone. -/
def Obligations.PmcIntrReadRefreshesTheAggregate : Prop :=
  ∀ (s : State) (a : Addr), s.dead = false → Reaches s a .pmcIntr0 →
    let closed := !s.globalEnHw && !s.globalEnSw
    let t : State :=
      { s with
        agg := aggregate s
        line := if closed then false else s.line
        calls := if closed then s.calls ++ [.irqDeassert] else s.calls }
    exec (.mmioRd32 a) s = .next { t with response := .data (aggregate s) } ∧
    exec (.mmioRd16 a) s =
      .next { t with
              response := .data (BitVec.ofNat 32 ((aggregate s).toNat / 2 ^ (8 * (a.toNat % 4)) % 2 ^ 16)) } ∧
    exec (.mmioRd8 a) s =
      .next { t with
              response := .data (BitVec.ofNat 32 ((aggregate s).toNat / 2 ^ (8 * (a.toNat % 4)) % 2 ^ 8)) }

/-- R92: off the VGA window a narrow read is the slice of the 32-bit read at the aligned address, whatever is there. -/
def Obligations.NarrowReadIsASliceOfTheWordRead : Prop :=
  ∀ (s : State) (a : Addr), s.dead = false → OffWindow s a →
    ∃ (t : State) (w : Word), exec (.mmioRd32 (alignAddr a)) s = .next t ∧ t.response = .data w ∧
      exec (.mmioRd8 a) s = .next { t with response := .data ((w >>> (8 * (a.toNat % 4))) &&& 0xFF) } ∧
      exec (.mmioRd16 a) s = .next { t with response := .data ((w >>> (8 * (a.toNat % 4))) &&& 0xFFFF) }

/-- R89, R90: off the VGA window a narrow write is the 32-bit read at the aligned address followed by the 32-bit write of
the word with the target lanes replaced. -/
def Obligations.NarrowWriteIsReadModifyWrite : Prop :=
  ∀ (s : State) (a : Addr), s.dead = false → OffWindow s a →
    ∃ (t : State) (w : Word), exec (.mmioRd32 (alignAddr a)) s = .next t ∧ t.response = .data w ∧
      (∀ b : Byte, exec (.mmioWr8 a b) s =
        exec (.mmioWr32 (alignAddr a)
          ((w &&& ~~~((0xFF : Word) <<< (8 * (a.toNat % 4)))) ||| (b.setWidth 32 <<< (8 * (a.toNat % 4))))) t) ∧
      (∀ h : Half, exec (.mmioWr16 a h) s =
        exec (.mmioWr32 (alignAddr a)
          ((w &&& ~~~((0xFFFF : Word) <<< (8 * (a.toNat % 4)))) ||| (h.setWidth 32 <<< (8 * (a.toNat % 4))))) t)

/-- R50, R88, R91: a misaligned 32-bit access is the access at the aligned address, its data not rotated. -/
def Obligations.MisalignedWordAccessIsNotRotated : Prop :=
  ∀ (s : State) (a : Addr) (v : Word), OffWindow s a →
    (alignAddr a).toNat = a.toNat - a.toNat % 4 ∧
    exec (.mmioRd32 a) s = exec (.mmioRd32 (alignAddr a)) s ∧
    exec (.mmioWr32 a v) s = exec (.mmioWr32 (alignAddr a) v) s

/-- R93: at a register whose write rule stores its value, a write sets exactly the lanes it targets (the dividers keep their
low 19 bits); a 16-bit write at a & 3 = 3 sets lane 3 only. -/
def Obligations.StoringRegistersKeepUntargetedLanes : Prop :=
  ∀ (s : State) (a : Addr) (r : Reg) (m : Word), s.dead = false → Reaches s a r → storedBits r = some m →
    (∀ b : Byte, ∃ t, exec (.mmioWr8 a b) s = .next t ∧
      ∀ k < 4, lane (registerWord t r) k =
        (if k = a.toNat % 4 then b else lane (registerWord s r) k) &&& lane m k) ∧
    (∀ h : Half, ∃ t, exec (.mmioWr16 a h) s = .next t ∧
      ∀ k < 4, lane (registerWord t r) k =
        (if k = a.toNat % 4 then h.extractLsb' 0 8
          else if k = a.toNat % 4 + 1 then h.extractLsb' 8 8 else lane (registerWord s r) k) &&& lane m k) ∧
    (∀ v : Word, ∃ t, exec (.mmioWr32 a v) s = .next t ∧ registerWord t r = v &&& m)

/-- R44, R48, R85: an address is in the VGA window exactly when it lies in one of the configured windows, both ends included
(held as a list: log entry 17). A read there asks the collaborator byte by byte, lowest first, at ports (a + i) & 0x3FF, and
puts the answers together; no register is touched. Answers nobody supplied are free values (log entry 4). -/
def Obligations.VgaReadsAskByteByByte : Prop :=
  (∀ (c : Config) (a : Addr),
    inVgaWindow c a = true ↔ ∃ w ∈ c.vgaWindows, w.start ≤ a.toNat ∧ a.toNat ≤ w.finish) ∧
  ∀ (s : State) (a : Addr), s.dead = false →
    (∃ w ∈ s.cfg.vgaWindows, w.start ≤ a.toNat ∧ a.toNat ≤ w.finish) →
    let port : Nat → VgaPort := fun i => BitVec.ofNat 10 ((a.toNat + i) % 1024)
    let byte : Nat → Byte := fun i => BitVec.ofNat 8 (answerAt s i).toNat
    exec (.mmioRd8 a) s =
      .next { afterCalls s [.vgaIn (port 0)] 1 with response := .data ((byte 0).setWidth 32) } ∧
    exec (.mmioRd16 a) s =
      .next { afterCalls s [.vgaIn (port 0), .vgaIn (port 1)] 2 with
              response := .data ((byte 1 ++ byte 0).setWidth 32) } ∧
    exec (.mmioRd32 a) s =
      .next { afterCalls s [.vgaIn (port 0), .vgaIn (port 1), .vgaIn (port 2), .vgaIn (port 3)] 4 with
              response := .data (byte 3 ++ byte 2 ++ byte 1 ++ byte 0) }

/-- R48, R85: a write in the VGA window goes out byte by byte, lowest first; no register is touched. -/
def Obligations.VgaWritesGoOutByteByByte : Prop :=
  ∀ (s : State) (a : Addr), s.dead = false →
    (∃ w ∈ s.cfg.vgaWindows, w.start ≤ a.toNat ∧ a.toNat ≤ w.finish) →
    let port : Nat → VgaPort := fun i => BitVec.ofNat 10 ((a.toNat + i) % 1024)
    (∀ b : Byte, exec (.mmioWr8 a b) s =
      .next { s with calls := s.calls ++ [.vgaOut (port 0) b], response := .none }) ∧
    (∀ h : Half, exec (.mmioWr16 a h) s =
      .next { s with
              calls := s.calls ++ [.vgaOut (port 0) (h.extractLsb' 0 8), .vgaOut (port 1) (h.extractLsb' 8 8)]
              response := .none }) ∧
    (∀ v : Word, exec (.mmioWr32 a v) s =
      .next { s with
              calls := s.calls ++
                [.vgaOut (port 0) (v.extractLsb' 0 8), .vgaOut (port 1) (v.extractLsb' 8 8),
                 .vgaOut (port 2) (v.extractLsb' 16 8), .vgaOut (port 3) (v.extractLsb' 24 8)]
              response := .none })

/-- R53, R86 to R88, R111: the frame of a read. Only AGG and LINE (through PMC_INTR_0), the calls, the answers taken and the
response can change. -/
def Obligations.ReadsLeaveTheRegistersAlone : Prop :=
  ∀ (i : Instr) (s t : State), isRead i = true → exec i s = .next t →
    t = { s with
          agg := t.agg, line := t.line, calls := t.calls
          answers := t.answers, drawCount := t.drawCount, response := t.response } ∧
    (t.agg = s.agg ∨ t.agg = aggregate s) ∧ (t.line = true → s.line = true)

/-- R69, R77 to R83, R95, R103 to R106: the frame of an MMIO write. Every register but the one addressed (and the aggregate
view PMC_INTR_0) reads as before, and so does all state that is not in the register map, with these exceptions: SW_STATUS
through PMC_INTR_0; the host timer of a divider through its own register; LINE, AGG and the calls, which only the status words,
the enable words, PMC_INTR_0 and PMC_INTR_EN_0 change (R124 to R127), and of which a divider changes the calls alone; and the
response. That the offers, the answers, the calls and the REFUSED mark are fields at all is log entries 1, 4, 5 and 7. -/
def Obligations.WritesChangeOnlyTheAddressedRegister : Prop :=
  ∀ (i : Instr) (s t : State) (a : Addr) (r : Reg), writesAt i = some a → Reaches s a r → exec i s = .next t →
    (∀ r', r' ≠ r → r' ≠ .pmcIntr0 → registerWord t r' = registerWord s r') ∧
    (r ≠ .pmcIntr0 → t.swStatus = s.swStatus) ∧
    (∀ g, r ≠ .coeff g → t.timer g = s.timer g) ∧
    (r ∈ ([.pmcBoot0, .pmcEnable, .pfbConfig0, .pextdevBoot0, .ptimerNumerator, .ptimerDenominator,
        .ptimerTime0, .ptimerTime1, .ptimerAlarm0] : List Reg) →
      registerWord t .pmcIntr0 = registerWord s .pmcIntr0 ∧ t.agg = s.agg ∧ t.line = s.line ∧ t.calls = s.calls) ∧
    (∀ g, r = .coeff g →
      registerWord t .pmcIntr0 = registerWord s .pmcIntr0 ∧ t.agg = s.agg ∧ t.line = s.line) ∧
    t.gr0Pend = s.gr0Pend ∧ t.gr1Pend = s.gr1Pend ∧
    t.rmaAddr = s.rmaAddr ∧ t.rmaData = s.rmaData ∧ t.rmaMode = s.rmaMode ∧ t.rmaSave = s.rmaSave ∧
    t.rmaDcount = s.rmaDcount ∧ t.dead = s.dead ∧ t.cfg = s.cfg ∧
    t.inbox = s.inbox ∧ t.refused = s.refused ∧
    t.answers = s.answers ∧ t.drawCount = s.drawCount ∧ t.response = .none

/-! ## Register writes -/

/-- R79, R82, R103, R105, R106: the plain registers store what a 32-bit write gives them, and nothing else changes. -/
def Obligations.PlainRegistersStore : Prop :=
  ∀ (s : State) (a : Addr) (v : Word), s.dead = false →
    (Reaches s a .pmcEnable → exec (.mmioWr32 a v) s = .next { s with pmcEnable := v, response := .none }) ∧
    (Reaches s a .pfbConfig0 → exec (.mmioWr32 a v) s = .next { s with pfbConfig0 := v, response := .none }) ∧
    (Reaches s a .ptimerNumerator → exec (.mmioWr32 a v) s = .next { s with num := v, response := .none }) ∧
    (Reaches s a .ptimerAlarm0 → exec (.mmioWr32 a v) s = .next { s with alarm := v, response := .none }) ∧
    (Reaches s a .ptimerTime0 → exec (.mmioWr32 a v) s =
      .next { s with
              time := BitVec.ofNat 64 (s.time.toNat / 2 ^ 32 * 2 ^ 32 + v.toNat), response := .none }) ∧
    (Reaches s a .ptimerTime1 → exec (.mmioWr32 a v) s =
      .next { s with
              time := BitVec.ofNat 64 (v.toNat * 2 ^ 32 + s.time.toNat % 2 ^ 32), response := .none })

/-- R76, R83: a write of PMC_BOOT_0 or PEXTDEV_BOOT_0 is ignored at every width. -/
def Obligations.ReadOnlyRegistersIgnoreWrites : Prop :=
  ∀ (s : State) (a : Addr) (r : Reg), s.dead = false → Reaches s a r → (r = .pmcBoot0 ∨ r = .pextdevBoot0) →
    (∀ b, exec (.mmioWr8 a b) s = .next { s with response := .none }) ∧
    (∀ h, exec (.mmioWr16 a h) s = .next { s with response := .none }) ∧
    (∀ v, exec (.mmioWr32 a v) s = .next { s with response := .none })

/-- R104: DEN reads back, and a write of zero, or a narrow write that makes the word zero, stores 1. No flag changes. -/
def Obligations.DenominatorWritesOfZeroStoreOne : Prop :=
  ∀ (s : State) (a : Addr), s.dead = false → Reaches s a .ptimerDenominator →
    exec (.mmioRd32 a) s = .next { s with response := .data s.den } ∧
    (∀ v : Word, exec (.mmioWr32 a v) s = .next { s with den := if v = 0 then 1 else v, response := .none }) ∧
    (∀ b : Byte, exec (.mmioWr8 a b) s =
      .next { s with den := if insert8 s.den a b = 0 then 1 else insert8 s.den a b, response := .none }) ∧
    (∀ h : Half, exec (.mmioWr16 a h) s =
      .next { s with den := if insert16 s.den a h = 0 then 1 else insert16 s.den a h, response := .none })

/-- R95, R98: a divider reads back packed; every write of it, a narrow one through its read-modify-write word, stores the
fields (M and N as written) and reprograms the timer: created and started the first time, its period set in place afterwards.
R98 itself says 'Starting the timer at once after creating it is the spec's choice' (92 D23). -/
def Obligations.DividerWritesReprogramTheTimer : Prop :=
  ∀ (s : State) (a : Addr) (g : Gen), s.dead = false → Reaches s a (.coeff g) →
    let reprogrammed : Word → State → Prop := fun v t =>
      let d : Divider := ⟨v.extractLsb' 0 8, v.extractLsb' 8 8, v.extractLsb' 16 3⟩
      let T := timerPeriod s.cfg d
      t.divider g = d ∧ (∀ k, k ≠ g → t.divider k = s.divider k ∧ t.timer k = s.timer k) ∧
        t.timer g = (if (s.timer g).created then { s.timer g with period := T } else ⟨true, true, T⟩) ∧
        t.calls = s.calls ++
          (if (s.timer g).created then [.timerSetPeriod g T] else [.timerCreate g T, .timerStart g]) ∧
        t.line = s.line ∧ t.agg = s.agg
    exec (.mmioRd32 a) s = .next { s with response := .data (packDivider (s.divider g)) } ∧
    (∀ v, ∃ t, exec (.mmioWr32 a v) s = .next t ∧ reprogrammed v t) ∧
    (∀ b, ∃ t, exec (.mmioWr8 a b) s = .next t ∧ reprogrammed (insert8 (packDivider (s.divider g)) a b) t) ∧
    (∀ h, ∃ t, exec (.mmioWr16 a h) s = .next t ∧ reprogrammed (insert16 (packDivider (s.divider g)) a h) t)

/-- R80 with the procedure of R127: a status word reads back; a write clears the bits written as 1 (a narrow write those of
its read-modify-write word), deasserts the line and recomputes with dispatch, and R129: the line is then exactly what is
justified. A write while the subsystem is gated is discarded, with no deassert and no recompute. R127 itself says 'That the
recompute dispatches is the spec's choice' (92 D12), and R129 is the spec's own inference. -/
def Obligations.StatusWritesClearAndRecompute : Prop :=
  ∀ (s : State) (a : Addr) (S : PairSource), s.dead = false →
    let cleared : Word → State := fun v =>
      { s.setPair S ⟨(s.pair S).status &&& ~~~v, (s.pair S).enable⟩ with
        line := false, calls := s.calls ++ [.irqDeassert], response := .none }
    (Reaches s a (.intr S) →
      exec (.mmioRd32 a) s = .next { s with response := .data (s.pair S).status } ∧
      (∀ v, exec (.mmioWr32 a v) s = .next (recompute true (cleared v))) ∧
      (∀ b, exec (.mmioWr8 a b) s = .next (recompute true (cleared (insert8 (s.pair S).status a b)))) ∧
      (∀ h, exec (.mmioWr16 a h) s = .next (recompute true (cleared (insert16 (s.pair S).status a h)))) ∧
      (∀ v, LineExact (recompute true (cleared v)))) ∧
    (inVgaWindow s.cfg a = false → route s (alignAddr a) = .gated (pairOwner S) →
      (∀ v, exec (.mmioWr32 a v) s = .next { s with response := .none }) ∧
      (∀ b, exec (.mmioWr8 a b) s = .next { s with response := .none }) ∧
      (∀ h, exec (.mmioWr16 a h) s = .next { s with response := .none }))

/-- R147: an 8-bit write to a status word clears the bits of its byte in the addressed lane and every bit in the other lanes. -/
def Obligations.NarrowStatusWriteClearsOtherLanes : Prop :=
  ∀ (s : State) (a : Addr) (S : PairSource) (b : Byte), s.dead = false → Reaches s a (.intr S) →
    ∃ t, exec (.mmioWr8 a b) s = .next t ∧
      ∀ k < 4, lane (t.pair S).status k =
        if k = a.toNat % 4 then lane (s.pair S).status k &&& ~~~b else 0

/-- R81: an enable word stores what is written and Recompute(true) follows. -/
def Obligations.EnableWritesStoreAndRecompute : Prop :=
  ∀ (s : State) (a : Addr) (S : PairSource) (v : Word), s.dead = false → Reaches s a (.intrEn S) →
    exec (.mmioWr32 a v) s =
      .next (recompute true { s.setPair S ⟨(s.pair S).status, v⟩ with response := .none })

/-- R77, R78, R128: PMC_INTR_0 takes bit 31 as SW_STATUS under BIT31_SETS and ignores the write under NONE; PMC_INTR_EN_0
takes the two gates; Recompute(true) follows each taken write. -/
def Obligations.MasterInterruptWrites : Prop :=
  ∀ (s : State) (a : Addr) (v : Word), s.dead = false →
    (Reaches s a .pmcIntr0 → s.cfg.swTrigger = .bit31Sets →
      exec (.mmioWr32 a v) s =
        .next (recompute true { s with swStatus := decide (2 ^ 31 ≤ v.toNat), response := .none })) ∧
    (Reaches s a .pmcIntr0 → s.cfg.swTrigger = .none →
      exec (.mmioWr32 a v) s = .next { s with response := .none }) ∧
    (Reaches s a .pmcIntrEn0 →
      exec (.mmioWr32 a v) s =
        .next (recompute true
          { s with
            globalEnHw := v.toNat.testBit s.cfg.globalEnHwBit.val
            globalEnSw := v.toNat.testBit s.cfg.globalEnSwBit.val
            response := .none }))

/-! ## The aggregator -/

/-- R22, R122 to R124 and the source's property E7: after Recompute a bit of AGG is 1 exactly when a source assigned to it is
pending, each source's condition written out; every other bit is 0. The software source stands at bit 31 (R123, log entry 16). -/
def Obligations.AggregateBitsAreThePendingSources : Prop :=
  ∀ (b : Bool) (s : State) (i : Nat),
    ((recompute b s).agg.getLsbD i = true ↔
      (i = s.cfg.aggBits.mediaport.val ∧ s.pme.status &&& s.pme.enable ≠ 0) ∨
      (i = s.cfg.aggBits.fifo.val ∧ s.pfifo.status &&& s.pfifo.enable ≠ 0) ∨
      (i = s.cfg.aggBits.graphics0.val ∧ s.gr0Pend = true) ∨
      (i = s.cfg.aggBits.graphics1.val ∧ s.gr1Pend = true) ∨
      (i = s.cfg.aggBits.video.val ∧ s.pvideo.status &&& s.pvideo.enable ≠ 0) ∨
      (i = s.cfg.aggBits.timer.val ∧ s.ptimer.status &&& s.ptimer.enable ≠ 0) ∨
      (i = s.cfg.aggBits.bus.val ∧ s.pbus.status &&& s.pbus.enable ≠ 0) ∨
      (i = 31 ∧ s.swStatus = true))

/-- R124: 'the evaluation order has no effect on AGG'. -/
def Obligations.EvaluationOrderDoesNotMatter : Prop :=
  ∀ (s : State) (order : List IrqSource), order.Perm allSources →
    order.foldl (addPending s) 0 = aggregate s

/-- R124 to R126: everything Recompute does, case by case: both gates closed, a refresh, a dispatch with nothing pending, with
the selected gate open, and with it closed under each SUPPRESS_MODE. -/
def Obligations.RecomputeDrivesTheLine : Prop :=
  ∀ s : State,
    let fresh : State := { s with agg := aggregate s }
    let low : State := { fresh with line := false, calls := s.calls ++ [.irqDeassert] }
    let openGate : Prop :=
      match s.cfg.irqClass with
      | .low31First => if (aggregate s).toNat % 2 ^ 31 ≠ 0 then s.globalEnHw = true else s.globalEnSw = true
      | .topFirst => if 2 ^ 31 ≤ (aggregate s).toNat then s.globalEnSw = true else s.globalEnHw = true
    (s.globalEnHw = false → s.globalEnSw = false → ∀ b, recompute b s = low) ∧
    (s.globalEnHw = true ∨ s.globalEnSw = true →
      recompute false s = fresh ∧
      (aggregate s = 0 → recompute true s = low) ∧
      (aggregate s ≠ 0 → openGate →
        recompute true s = { fresh with line := true, calls := s.calls ++ [.irqAssert] }) ∧
      (aggregate s ≠ 0 → ¬ openGate → s.cfg.suppressMode = .hold → recompute true s = fresh) ∧
      (aggregate s ≠ 0 → ¬ openGate → s.cfg.suppressMode = .deassert → recompute true s = low))

/-- R126: on a nonzero aggregate 'the two agree unless bit 31 and some bit in [30:0] are both set'. -/
def Obligations.ClassificationsAgreeUnlessMixed : Prop :=
  ∀ agg : Word, agg ≠ 0 →
    (classify .low31First agg = classify .topFirst agg ↔ ¬ (2 ^ 31 < agg.toNat))

/-! ## Clocks -/

/-- R94: M at bits 7:0, N at 15:8, P at 18:16; unpacking a packed record gives it back, and packing an unpacked word keeps
its low 19 bits. -/
def Obligations.DividerPackingRoundTrips : Prop :=
  (∀ d : Divider, (packDivider d).toNat = d.p.toNat * 2 ^ 16 + d.n.toNat * 2 ^ 8 + d.m.toNat) ∧
  (∀ d : Divider, unpackDivider (packDivider d) = d) ∧
  (∀ v : Word, packDivider (unpackDivider v) = v &&& 0x0007FFFF)

/-- R96, R97: the frequency formula with M and N clamped at use, its bounds, and the period as its correction over it. -/
def Obligations.FrequencyAndPeriodFormulas : Prop :=
  ∀ (c : Config) (d : Divider), 0 < c.crystalHz →
    let f := frequency c.crystalHz d
    f * ((max d.m.toNat 1 : Nat) : Q) * 2 ^ d.p.toNat = (c.crystalHz : Q) * ((max d.n.toNat 1 : Nat) : Q) ∧
    (c.crystalHz : Q) / (255 * 128) ≤ f ∧ f ≤ (c.crystalHz : Q) * 255 ∧ 0 < f ∧
    timerPeriod c d * f * ((c.fixQuotient.denPred : Q) + 1) = 1000000 * ((c.fixQuotient.numPred : Q) + 1) ∧
    0 < timerPeriod c d

/-- R64, R100, R101: TICK_VCLK changes nothing; TICK_MCLK of a timer that does not run changes nothing; a tick whose
ELAPSED_US is not positive is refused by name, and the refusal leaves the state marked refused, nothing else changed (that it
carries the marked state is log entry 7). -/
def Obligations.TicksWithoutEffect : Prop :=
  ∀ (s : State) (e : Q), s.dead = false →
    (0 < e → exec (.tickVclk e) s = .next { s with response := .none }) ∧
    (0 < e → s.mclkTimer.running = false → exec (.tickMclk e) s = .next { s with response := .none }) ∧
    (e ≤ 0 →
      exec (.tickVclk e) s = .refused (.illegalTransaction .nonPositiveElapsed { s with refused := true }) ∧
      exec (.tickMclk e) s = .refused (.illegalTransaction .nonPositiveElapsed { s with refused := true }))

/-- R101: a tick of the running memory clock adds floor(E × f / 10^6 × NUM × FIX_QUOTIENT / DEN) to TIME (reduced modulo 2^32
under TICK_INC_BITS = 32), modulo 2^64, and then, if TIME ≥ ALARM, sets the alarm bit and dispatches. -/
def Obligations.MclkTickAdvancesTimeAndAlarm : Prop :=
  ∀ (s : State) (e : Q), s.dead = false → 0 < e → s.mclkTimer.running = true →
    let x : Q :=
      e * ((s.cfg.crystalHz * max s.mclkDiv.n.toNat 1 * s.num.toNat * (s.cfg.fixQuotient.numPred + 1) : Nat) : Q) /
        ((max s.mclkDiv.m.toNat 1 * 2 ^ s.mclkDiv.p.toNat * 1000000 * s.den.toNat *
          (s.cfg.fixQuotient.denPred + 1) : Nat) : Q)
    let delta : Nat :=
      match s.cfg.tickIncBits with
      | .bits64 => x.floor.toNat
      | .bits32 => x.floor.toNat % 2 ^ 32
    let now : Nat := (s.time.toNat + delta) % 2 ^ 64
    exec (.tickMclk e) s =
      .next (if s.alarm.toNat ≤ now then
          recompute true
            { s with
              time := BitVec.ofNat 64 now
              ptimer := ⟨s.ptimer.status ||| BitVec.twoPow 32 s.cfg.alarmBit.val, s.ptimer.enable⟩
              response := .none }
        else { s with time := BitVec.ofNat 64 now, response := .none })

/-- R102, R151: no tick writes a divider, changes a timer or makes a request on the host-timer port; a tick changes only TIME,
PTIMER_STATUS, AGG, LINE and the calls. -/
def Obligations.TicksNeverReprogram : Prop :=
  ∀ (i : Instr) (s t : State) (e : Q), i = .tickVclk e ∨ i = .tickMclk e → exec i s = .next t →
    t = { s with
          time := t.time, ptimer := ⟨t.ptimer.status, s.ptimer.enable⟩
          agg := t.agg, line := t.line, calls := t.calls, response := t.response } ∧
    ∃ new, t.calls = s.calls ++ new ∧ ∀ c ∈ new, isTimerCall c = false

/-! ## The RMA shifter -/

/-- R107, R108, R110, R111: ports 0 to 3 return the signature bytes in either mode; the undefined ports return 0; in
signature-read mode the data ports return 0 and make no access. -/
def Obligations.RmaInFixedPorts : Prop :=
  ∀ (s : State) (p : Byte), s.dead = false →
    (p.toNat < 4 → exec (.rmaIn p) s =
      .next { s with response := .byte (s.cfg.rmaSignature.extractLsb' (8 * p.toNat) 8) }) ∧
    ((4 ≤ p.toNat ∧ p.toNat < 8) ∨ 12 ≤ p.toNat → exec (.rmaIn p) s = .next { s with response := .byte 0 }) ∧
    (8 ≤ p.toNat → p.toNat < 12 → s.rmaMode.getLsbD s.cfg.rmaTxnBit.val = false →
      exec (.rmaIn p) s = .next { s with response := .byte 0 })

/-- R109, R111: in transaction mode a data port returns the byte at RMA_ADDR + (p & 3) modulo 2^32: through the composer's
8-bit read below APERTURE, from VRAM above. RMA_ADDR does not move. -/
def Obligations.RmaInDataPorts : Prop :=
  ∀ (s : State) (k : Nat), s.dead = false → s.rmaMode.getLsbD s.cfg.rmaTxnBit.val = true → k < 4 →
    let t := (s.rmaAddr.toNat + k) % 2 ^ 32
    (t < 2 ^ 24 → ∃ (u : State) (w : Word), exec (.mmioRd8 (BitVec.ofNat 24 t)) s = .next u ∧ u.response = .data w ∧
      exec (.rmaIn (BitVec.ofNat 8 (8 + k))) s = .next { u with response := .byte (w.setWidth 8) }) ∧
    (2 ^ 24 ≤ t → exec (.rmaIn (BitVec.ofNat 8 (8 + k))) s =
      .next { afterCalls s [.vramRead8 (BitVec.ofNat 32 (t - 2 ^ 24))] 1 with
              response := .byte ((answerAt s 0).setWidth 8) })

/-- R47: in transaction mode the byte written to port p lands in lane p & 3 of its accumulator, and no other lane of it moves. -/
def Obligations.RmaBytesLandInTheirLanes : Prop :=
  ∀ (s : State) (k : Nat) (b : Byte), s.dead = false → s.rmaMode.getLsbD s.cfg.rmaTxnBit.val = true → k < 4 →
    (∃ t, exec (.rmaOut (BitVec.ofNat 8 k) b) s = .next t ∧
      ∀ j < 4, lane t.rmaAddr j = if j = k then b else lane s.rmaAddr j) ∧
    (∃ t, exec (.rmaOut (BitVec.ofNat 8 (8 + k)) b) s = .next t ∧
      ∀ j < 4, lane t.rmaData j = if j = k then b else lane s.rmaData j)

/-- R107, R108, R112, R113: what an RMA_OUT that completes no transaction changes: an address port RMA_ADDR and RMA_SAVE, a
data port RMA_DATA and RMA_SAVE (and under FOURTH_BYTE the count); nothing at all at an undefined port or in
signature-read mode. -/
def Obligations.RmaOutWithoutTransaction : Prop :=
  ∀ (s : State) (p b : Byte), s.dead = false →
    (s.rmaMode.getLsbD s.cfg.rmaTxnBit.val = false ∨ (4 ≤ p.toNat ∧ p.toNat < 8) ∨ 12 ≤ p.toNat →
      exec (.rmaOut p b) s = .next { s with response := .none }) ∧
    (∀ (k : Fin 4), s.rmaMode.getLsbD s.cfg.rmaTxnBit.val = true → p.toNat = k.val →
      exec (.rmaOut p b) s =
        .next { s with
                rmaAddr := setLane s.rmaAddr k.val b, rmaSave := s.rmaSave.set k.val b, response := .none }) ∧
    (∀ (k : Fin 4), s.rmaMode.getLsbD s.cfg.rmaTxnBit.val = true → p.toNat = 8 + k.val → k.val < 3 → s.cfg.rmaTrigger = .port0B →
      exec (.rmaOut p b) s =
        .next { s with
                rmaData := setLane s.rmaData k.val b, rmaSave := s.rmaSave.set k.val b, response := .none }) ∧
    (∀ (k : Fin 4) (n : Fin 5), s.rmaMode.getLsbD s.cfg.rmaTxnBit.val = true → p.toNat = 8 + k.val →
      s.cfg.rmaTrigger = .fourthByte →
      s.rmaDcount.val < 3 → n.val = s.rmaDcount.val + 1 →
      exec (.rmaOut p b) s =
        .next { s with
                rmaData := setLane s.rmaData k.val b, rmaSave := s.rmaSave.set k.val b
                rmaDcount := n, response := .none })

/-- R109, R112 to R114: the byte that triggers (the one at port 0x0B under PORT_0B, the fourth one counted, at any data port,
under FOURTH_BYTE) completes exactly one 32-bit write of RMA_DATA at RMA_ADDR, stale lanes included, through the composer
below APERTURE and to VRAM above; RMA_ADDR then advances by 4 under auto-increment. -/
def Obligations.RmaTriggeringByteCompletesATransaction : Prop :=
  ∀ (s : State) (k : Fin 4) (b : Byte) (n : Fin 5), s.dead = false → s.rmaMode.getLsbD s.cfg.rmaTxnBit.val = true →
    (s.cfg.rmaTrigger = .port0B ∧ k = 3 ∧ n = s.rmaDcount) ∨
      (s.cfg.rmaTrigger = .fourthByte ∧ 3 ≤ s.rmaDcount.val ∧ n = 0) →
    let data : Word := setLane s.rmaData k.val b
    let s1 : State := { s with rmaSave := s.rmaSave.set k.val b, rmaData := data, rmaDcount := n }
    let after : Word := if s.rmaMode.getLsbD s.cfg.rmaAutoincBit.val then s.rmaAddr + 4 else s.rmaAddr
    (s.rmaAddr.toNat < 2 ^ 24 → ∃ t, exec (.mmioWr32 (BitVec.ofNat 24 s.rmaAddr.toNat) data) s1 = .next t ∧
      exec (.rmaOut (BitVec.ofNat 8 (8 + k.val)) b) s = .next { t with rmaAddr := after }) ∧
    (2 ^ 24 ≤ s.rmaAddr.toNat → exec (.rmaOut (BitVec.ofNat 8 (8 + k.val)) b) s =
      .next { s1 with
              rmaAddr := after
              calls := s.calls ++ [.vramWrite32 (BitVec.ofNat 32 (s.rmaAddr.toNat - 2 ^ 24)) data]
              response := .none })

/-- R113, R114 and §8's example E2: four bytes at ports 0 to 3 set RMA_ADDR; four bytes at ports 8 to 0x0B in order perform
exactly one transaction, under either RMA_TRIGGER. -/
def Obligations.RmaInOrderBytesMakeOneTransaction : Prop :=
  ∀ (s : State) (b0 b1 b2 b3 : Byte), s.dead = false → s.rmaMode.getLsbD s.cfg.rmaTxnBit.val = true →
    execAll [.rmaOut 0 b0, .rmaOut 1 b1, .rmaOut 2 b2, .rmaOut 3 b3] s =
      .next { s with rmaAddr := b3 ++ b2 ++ b1 ++ b0, rmaSave := #v[b0, b1, b2, b3], response := .none } ∧
    (s.rmaDcount.val = 0 →
      execAll [.rmaOut 8 b0, .rmaOut 9 b1, .rmaOut 0x0A b2, .rmaOut 0x0B b3] s =
        .next (rmaTxn { s with
                        rmaData := b3 ++ b2 ++ b1 ++ b0, rmaSave := #v[b0, b1, b2, b3], response := .none }))

/-- R115: RMA_MODE_WR stores the mode byte and changes nothing else. -/
def Obligations.RmaModeWriteStoresTheByte : Prop :=
  ∀ (s : State) (b : Byte), s.dead = false →
    exec (.rmaModeWr b) s = .next { s with rmaMode := b, response := .none }

/-- R116: no transaction can observe RMA_SAVE: two states that differ only in it stop with one fault, or are refused for one
reason or go on, and then leave states that differ only in it. -/
def Obligations.SavedBytesAreUnobservable : Prop :=
  ∀ (i : Instr) (s : State) (saved : Vector Byte 4),
    (∀ t, exec i s = .next t → ∃ saved', exec i { s with rmaSave := saved } = .next { t with rmaSave := saved' }) ∧
    (∀ f, exec i s = .fault f → exec i { s with rmaSave := saved } = .fault f) ∧
    (∀ r, exec i s = .refused r → ∃ why marked saved', r = .illegalTransaction why marked ∧
      exec i { s with rmaSave := saved } = .refused (.illegalTransaction why { marked with rmaSave := saved' }))

/-! ## Host inputs, teardown, reset -/

/-- R71, R117: RAISE_INTR sets the mask's bits in the pair's status word and recomputes with dispatch, whatever PMC_ENABLE
gates; nothing else changes. -/
def Obligations.RaiseSetsStatusBits : Prop :=
  ∀ (s : State) (S : PairSource) (mask : Word), s.dead = false →
    exec (.raiseIntr S mask) s =
      .next (recompute true
        { s.setPair S ⟨(s.pair S).status ||| mask, (s.pair S).enable⟩ with response := .none })

/-- R118: GR_PENDING stores the two pending bits and recomputes with dispatch. -/
def Obligations.GraphicsPendingIsStored : Prop :=
  ∀ (s : State) (g0 g1 : Bool), s.dead = false →
    exec (.grPending g0 g1) s =
      .next (recompute true { s with gr0Pend := g0, gr1Pend := g1, response := .none })

/-- R119: TEARDOWN destroys the created timers, VCLK first, sets DEAD and leaves the interrupt line and every register alone. -/
def Obligations.TeardownDestroysTheTimers : Prop :=
  ∀ s : State, s.dead = false →
    ∃ t, exec .teardown s = .next t ∧ t.dead = true ∧
      (∀ g, (s.timer g).created = true →
        (t.timer g).created = false ∧ (t.timer g).running = false) ∧
      (∀ g, (s.timer g).created = false → t.timer g = s.timer g) ∧
      t.calls = s.calls ++
        (if s.vclkTimer.created then [.timerDestroy .vclk] else []) ++
        (if s.mclkTimer.created then [.timerDestroy .mclk] else []) ∧
      t = { s with
            dead := true, vclkTimer := t.vclkTimer, mclkTimer := t.mclkTimer
            calls := t.calls, response := .none }

/-- R141 to R143: RESET is taken in every state; it destroys the created timers, gives every element its reset value,
deasserts the line, and programs both timers when TIMERS_AT_RESET holds. (T_PERIOD of a timer that does not exist is not
stated: log entry 10. That the parameters and the recorded calls stay is log entries 2, 5 and 12.) -/
def Obligations.ResetRestoresEveryElement : Prop :=
  ∀ s : State, ∃ t, exec .reset s = .next t ∧
    t.agg = 0 ∧ (∀ S, t.pair S = ⟨0, 0⟩) ∧ t.swStatus = false ∧ t.globalEnHw = true ∧ t.globalEnSw = true ∧
    t.pmcEnable = s.cfg.pmcEnableReset ∧ t.gr0Pend = false ∧ t.gr1Pend = false ∧ t.pfbConfig0 = 0 ∧
    packDivider t.vclkDiv = s.cfg.divResetVclk.setWidth 32 ∧ packDivider t.mclkDiv = s.cfg.divResetMclk.setWidth 32 ∧
    t.dead = false ∧ t.time = 0 ∧ t.num = s.cfg.numReset ∧ t.den = s.cfg.denReset ∧ t.alarm = s.cfg.alarmReset ∧
    t.line = false ∧ t.rmaAddr = 0 ∧ t.rmaData = 0 ∧ t.rmaMode = s.cfg.rmaModeReset ∧
    t.rmaSave = #v[0, 0, 0, 0] ∧ t.rmaDcount = 0 ∧ t.cfg = s.cfg ∧
    let before : List Call :=
      s.calls ++ (if s.vclkTimer.created then [.timerDestroy .vclk] else []) ++
        (if s.mclkTimer.created then [.timerDestroy .mclk] else []) ++ [.irqDeassert]
    (s.cfg.timersAtReset = false →
      (∀ g, (t.timer g).created = false ∧ (t.timer g).running = false) ∧ t.calls = before) ∧
    (s.cfg.timersAtReset = true →
      (∀ g, t.timer g = ⟨true, true, timerPeriod s.cfg (t.divider g)⟩) ∧
      t.calls = before ++
        [.timerCreate .vclk (timerPeriod s.cfg t.vclkDiv), .timerStart .vclk,
         .timerCreate .mclk (timerPeriod s.cfg t.mclkDiv), .timerStart .mclk])

/-! ## The whole machine -/

/-- R117: RAISE_INTR 'is the only way to set a PBUS, PFIFO, PVIDEO or PME status bit'. -/
def Obligations.OnlyRaiseSetsAStatusBit : Prop :=
  ∀ (i : Instr) (s t : State) (S : PairSource) (k : Nat), S ≠ .ptimer → exec i s = .next t →
    (s.pair S).status.getLsbD k = false → (t.pair S).status.getLsbD k = true →
    ∃ mask : Word, i = .raiseIntr S mask ∧ mask.getLsbD k = true

/-- R71, R152: while a pair's subsystem is gated off, no transaction but RAISE_INTR to it, RESET, and the alarm (for the
timer's pair) changes the pair: every register access to it is without side effect. -/
def Obligations.ClosedGateProtectsThePair : Prop :=
  ∀ (i : Instr) (s t : State) (S : PairSource), exec i s = .next t → gateClosed s (pairOwner S) = true →
    i ≠ .reset → (∀ mask, i ≠ .raiseIntr S mask) → (S = .ptimer → ∀ e, i ≠ .tickMclk e) →
    t.pair S = s.pair S

/-- R124: 'it must never retain stale bits': every step keeps AGG equal to the aggregate of the current pairs. -/
def Obligations.StepKeepsTheAggregateFresh : Prop :=
  ∀ s t : State, AggFresh s → step s = .next t → AggFresh t

/-- R124, R125, R129, under either SUPPRESS_MODE: every step keeps the line low when nothing is pending or both gates are
closed, and high when the selected gate is open over a nonzero aggregate. -/
def Obligations.StepKeepsTheLineLaw : Prop :=
  ∀ s t : State, AggFresh s → LineLaw s → step s = .next t → LineLaw t

/-- R129 under SUPPRESS_MODE = DEASSERT: every step keeps LINE = 1 exactly when AGG, GLOBAL_EN and the selected gate justify it. -/
def Obligations.StepKeepsTheLineExact : Prop :=
  ∀ s t : State, s.cfg.suppressMode = .deassert → AggFresh s → LineExact s → step s = .next t → LineExact t

/-- R32, R35, R38, R98, R113, R128: every step keeps DEN nonzero, a timer running exactly while it exists with a positive
period, fewer than four data bytes counted, and SW_STATUS 0 'for good' under SW_TRIGGER = NONE. -/
def Obligations.StepKeepsTheRecordsSound : Prop :=
  ∀ s t : State, RecordsSound s → step s = .next t → RecordsSound t

/-- R141, R142: the state after reset satisfies the invariants, under a well-formed configuration (the defaults: log entry 3;
the conditions beyond R11's four: log entry 11). That the REFUSED mark is 0 then is the model's choice (log entry 7). -/
def Obligations.ResetStateMeetsTheInvariants : Prop :=
  State.reset.cfg.wellFormed = true ∧ AggFresh State.reset ∧ LineLaw State.reset ∧ LineExact State.reset ∧
    RecordsSound State.reset ∧ State.reset.dead = false ∧ State.reset.refused = false
end

