-- ==== Sys2Proof/Laws/State.lean ====
section
/-! SUPPORT. One lemma per field per update of State: what each named update leaves alone, and what it writes.
Last: what a refusal can say. -/

namespace Sys2Proof.Machine

/-! ### `State.emit` -/

@[simp] theorem State.emit_cfg (s : State) (c : Call) : (s.emit c).cfg = s.cfg := rfl
@[simp] theorem State.emit_agg (s : State) (c : Call) : (s.emit c).agg = s.agg := rfl
@[simp] theorem State.emit_swStatus (s : State) (c : Call) : (s.emit c).swStatus = s.swStatus := rfl
@[simp] theorem State.emit_globalEnHw (s : State) (c : Call) : (s.emit c).globalEnHw = s.globalEnHw := rfl
@[simp] theorem State.emit_globalEnSw (s : State) (c : Call) : (s.emit c).globalEnSw = s.globalEnSw := rfl
@[simp] theorem State.emit_pmcEnable (s : State) (c : Call) : (s.emit c).pmcEnable = s.pmcEnable := rfl
@[simp] theorem State.emit_pme (s : State) (c : Call) : (s.emit c).pme = s.pme := rfl
@[simp] theorem State.emit_pfifo (s : State) (c : Call) : (s.emit c).pfifo = s.pfifo := rfl
@[simp] theorem State.emit_pvideo (s : State) (c : Call) : (s.emit c).pvideo = s.pvideo := rfl
@[simp] theorem State.emit_ptimer (s : State) (c : Call) : (s.emit c).ptimer = s.ptimer := rfl
@[simp] theorem State.emit_pbus (s : State) (c : Call) : (s.emit c).pbus = s.pbus := rfl
@[simp] theorem State.emit_gr0Pend (s : State) (c : Call) : (s.emit c).gr0Pend = s.gr0Pend := rfl
@[simp] theorem State.emit_gr1Pend (s : State) (c : Call) : (s.emit c).gr1Pend = s.gr1Pend := rfl
@[simp] theorem State.emit_pfbConfig0 (s : State) (c : Call) : (s.emit c).pfbConfig0 = s.pfbConfig0 := rfl
@[simp] theorem State.emit_vclkDiv (s : State) (c : Call) : (s.emit c).vclkDiv = s.vclkDiv := rfl
@[simp] theorem State.emit_mclkDiv (s : State) (c : Call) : (s.emit c).mclkDiv = s.mclkDiv := rfl
@[simp] theorem State.emit_vclkTimer (s : State) (c : Call) : (s.emit c).vclkTimer = s.vclkTimer := rfl
@[simp] theorem State.emit_mclkTimer (s : State) (c : Call) : (s.emit c).mclkTimer = s.mclkTimer := rfl
@[simp] theorem State.emit_dead (s : State) (c : Call) : (s.emit c).dead = s.dead := rfl
@[simp] theorem State.emit_time (s : State) (c : Call) : (s.emit c).time = s.time := rfl
@[simp] theorem State.emit_num (s : State) (c : Call) : (s.emit c).num = s.num := rfl
@[simp] theorem State.emit_den (s : State) (c : Call) : (s.emit c).den = s.den := rfl
@[simp] theorem State.emit_alarm (s : State) (c : Call) : (s.emit c).alarm = s.alarm := rfl
@[simp] theorem State.emit_line (s : State) (c : Call) : (s.emit c).line = s.line := rfl
@[simp] theorem State.emit_rmaAddr (s : State) (c : Call) : (s.emit c).rmaAddr = s.rmaAddr := rfl
@[simp] theorem State.emit_rmaData (s : State) (c : Call) : (s.emit c).rmaData = s.rmaData := rfl
@[simp] theorem State.emit_rmaMode (s : State) (c : Call) : (s.emit c).rmaMode = s.rmaMode := rfl
@[simp] theorem State.emit_rmaSave (s : State) (c : Call) : (s.emit c).rmaSave = s.rmaSave := rfl
@[simp] theorem State.emit_rmaDcount (s : State) (c : Call) : (s.emit c).rmaDcount = s.rmaDcount := rfl
@[simp] theorem State.emit_refused (s : State) (c : Call) : (s.emit c).refused = s.refused := rfl
@[simp] theorem State.emit_inbox (s : State) (c : Call) : (s.emit c).inbox = s.inbox := rfl
@[simp] theorem State.emit_answers (s : State) (c : Call) : (s.emit c).answers = s.answers := rfl
@[simp] theorem State.emit_drawCount (s : State) (c : Call) : (s.emit c).drawCount = s.drawCount := rfl
@[simp] theorem State.emit_response (s : State) (c : Call) : (s.emit c).response = s.response := rfl
@[simp] theorem State.emit_pair (s : State) (c : Call) (P : PairSource) : (s.emit c).pair P = s.pair P := by cases P <;> simp [State.pair]
@[simp] theorem State.emit_divider (s : State) (c : Call) (d : Gen) : (s.emit c).divider d = s.divider d := by cases d <;> simp [State.divider]
@[simp] theorem State.emit_timer (s : State) (c : Call) (d : Gen) : (s.emit c).timer d = s.timer d := by cases d <;> simp [State.timer]
@[simp] theorem State.emit_calls (s : State) (c : Call) : (s.emit c).calls = s.calls ++ [c] := rfl

/-! ### `State.respond` -/

@[simp] theorem State.respond_cfg (s : State) (r : Response) : (s.respond r).cfg = s.cfg := rfl
@[simp] theorem State.respond_agg (s : State) (r : Response) : (s.respond r).agg = s.agg := rfl
@[simp] theorem State.respond_swStatus (s : State) (r : Response) : (s.respond r).swStatus = s.swStatus := rfl
@[simp] theorem State.respond_globalEnHw (s : State) (r : Response) : (s.respond r).globalEnHw = s.globalEnHw := rfl
@[simp] theorem State.respond_globalEnSw (s : State) (r : Response) : (s.respond r).globalEnSw = s.globalEnSw := rfl
@[simp] theorem State.respond_pmcEnable (s : State) (r : Response) : (s.respond r).pmcEnable = s.pmcEnable := rfl
@[simp] theorem State.respond_pme (s : State) (r : Response) : (s.respond r).pme = s.pme := rfl
@[simp] theorem State.respond_pfifo (s : State) (r : Response) : (s.respond r).pfifo = s.pfifo := rfl
@[simp] theorem State.respond_pvideo (s : State) (r : Response) : (s.respond r).pvideo = s.pvideo := rfl
@[simp] theorem State.respond_ptimer (s : State) (r : Response) : (s.respond r).ptimer = s.ptimer := rfl
@[simp] theorem State.respond_pbus (s : State) (r : Response) : (s.respond r).pbus = s.pbus := rfl
@[simp] theorem State.respond_gr0Pend (s : State) (r : Response) : (s.respond r).gr0Pend = s.gr0Pend := rfl
@[simp] theorem State.respond_gr1Pend (s : State) (r : Response) : (s.respond r).gr1Pend = s.gr1Pend := rfl
@[simp] theorem State.respond_pfbConfig0 (s : State) (r : Response) : (s.respond r).pfbConfig0 = s.pfbConfig0 := rfl
@[simp] theorem State.respond_vclkDiv (s : State) (r : Response) : (s.respond r).vclkDiv = s.vclkDiv := rfl
@[simp] theorem State.respond_mclkDiv (s : State) (r : Response) : (s.respond r).mclkDiv = s.mclkDiv := rfl
@[simp] theorem State.respond_vclkTimer (s : State) (r : Response) : (s.respond r).vclkTimer = s.vclkTimer := rfl
@[simp] theorem State.respond_mclkTimer (s : State) (r : Response) : (s.respond r).mclkTimer = s.mclkTimer := rfl
@[simp] theorem State.respond_dead (s : State) (r : Response) : (s.respond r).dead = s.dead := rfl
@[simp] theorem State.respond_time (s : State) (r : Response) : (s.respond r).time = s.time := rfl
@[simp] theorem State.respond_num (s : State) (r : Response) : (s.respond r).num = s.num := rfl
@[simp] theorem State.respond_den (s : State) (r : Response) : (s.respond r).den = s.den := rfl
@[simp] theorem State.respond_alarm (s : State) (r : Response) : (s.respond r).alarm = s.alarm := rfl
@[simp] theorem State.respond_line (s : State) (r : Response) : (s.respond r).line = s.line := rfl
@[simp] theorem State.respond_rmaAddr (s : State) (r : Response) : (s.respond r).rmaAddr = s.rmaAddr := rfl
@[simp] theorem State.respond_rmaData (s : State) (r : Response) : (s.respond r).rmaData = s.rmaData := rfl
@[simp] theorem State.respond_rmaMode (s : State) (r : Response) : (s.respond r).rmaMode = s.rmaMode := rfl
@[simp] theorem State.respond_rmaSave (s : State) (r : Response) : (s.respond r).rmaSave = s.rmaSave := rfl
@[simp] theorem State.respond_rmaDcount (s : State) (r : Response) : (s.respond r).rmaDcount = s.rmaDcount := rfl
@[simp] theorem State.respond_refused (s : State) (r : Response) : (s.respond r).refused = s.refused := rfl
@[simp] theorem State.respond_inbox (s : State) (r : Response) : (s.respond r).inbox = s.inbox := rfl
@[simp] theorem State.respond_answers (s : State) (r : Response) : (s.respond r).answers = s.answers := rfl
@[simp] theorem State.respond_drawCount (s : State) (r : Response) : (s.respond r).drawCount = s.drawCount := rfl
@[simp] theorem State.respond_calls (s : State) (r : Response) : (s.respond r).calls = s.calls := rfl
@[simp] theorem State.respond_pair (s : State) (r : Response) (P : PairSource) : (s.respond r).pair P = s.pair P := by cases P <;> simp [State.pair]
@[simp] theorem State.respond_divider (s : State) (r : Response) (d : Gen) : (s.respond r).divider d = s.divider d := by cases d <;> simp [State.divider]
@[simp] theorem State.respond_timer (s : State) (r : Response) (d : Gen) : (s.respond r).timer d = s.timer d := by cases d <;> simp [State.timer]
@[simp] theorem State.respond_response (s : State) (r : Response) : (s.respond r).response = r := rfl

/-! ### `State.setPair` -/

@[simp] theorem State.setPair_cfg (s : State) (S : PairSource) (p : Pair) : (s.setPair S p).cfg = s.cfg := by cases S <;> rfl
@[simp] theorem State.setPair_agg (s : State) (S : PairSource) (p : Pair) : (s.setPair S p).agg = s.agg := by cases S <;> rfl
@[simp] theorem State.setPair_swStatus (s : State) (S : PairSource) (p : Pair) : (s.setPair S p).swStatus = s.swStatus := by cases S <;> rfl
@[simp] theorem State.setPair_globalEnHw (s : State) (S : PairSource) (p : Pair) : (s.setPair S p).globalEnHw = s.globalEnHw := by cases S <;> rfl
@[simp] theorem State.setPair_globalEnSw (s : State) (S : PairSource) (p : Pair) : (s.setPair S p).globalEnSw = s.globalEnSw := by cases S <;> rfl
@[simp] theorem State.setPair_pmcEnable (s : State) (S : PairSource) (p : Pair) : (s.setPair S p).pmcEnable = s.pmcEnable := by cases S <;> rfl
@[simp] theorem State.setPair_gr0Pend (s : State) (S : PairSource) (p : Pair) : (s.setPair S p).gr0Pend = s.gr0Pend := by cases S <;> rfl
@[simp] theorem State.setPair_gr1Pend (s : State) (S : PairSource) (p : Pair) : (s.setPair S p).gr1Pend = s.gr1Pend := by cases S <;> rfl
@[simp] theorem State.setPair_pfbConfig0 (s : State) (S : PairSource) (p : Pair) : (s.setPair S p).pfbConfig0 = s.pfbConfig0 := by cases S <;> rfl
@[simp] theorem State.setPair_vclkDiv (s : State) (S : PairSource) (p : Pair) : (s.setPair S p).vclkDiv = s.vclkDiv := by cases S <;> rfl
@[simp] theorem State.setPair_mclkDiv (s : State) (S : PairSource) (p : Pair) : (s.setPair S p).mclkDiv = s.mclkDiv := by cases S <;> rfl
@[simp] theorem State.setPair_vclkTimer (s : State) (S : PairSource) (p : Pair) : (s.setPair S p).vclkTimer = s.vclkTimer := by cases S <;> rfl
@[simp] theorem State.setPair_mclkTimer (s : State) (S : PairSource) (p : Pair) : (s.setPair S p).mclkTimer = s.mclkTimer := by cases S <;> rfl
@[simp] theorem State.setPair_dead (s : State) (S : PairSource) (p : Pair) : (s.setPair S p).dead = s.dead := by cases S <;> rfl
@[simp] theorem State.setPair_time (s : State) (S : PairSource) (p : Pair) : (s.setPair S p).time = s.time := by cases S <;> rfl
@[simp] theorem State.setPair_num (s : State) (S : PairSource) (p : Pair) : (s.setPair S p).num = s.num := by cases S <;> rfl
@[simp] theorem State.setPair_den (s : State) (S : PairSource) (p : Pair) : (s.setPair S p).den = s.den := by cases S <;> rfl
@[simp] theorem State.setPair_alarm (s : State) (S : PairSource) (p : Pair) : (s.setPair S p).alarm = s.alarm := by cases S <;> rfl
@[simp] theorem State.setPair_line (s : State) (S : PairSource) (p : Pair) : (s.setPair S p).line = s.line := by cases S <;> rfl
@[simp] theorem State.setPair_rmaAddr (s : State) (S : PairSource) (p : Pair) : (s.setPair S p).rmaAddr = s.rmaAddr := by cases S <;> rfl
@[simp] theorem State.setPair_rmaData (s : State) (S : PairSource) (p : Pair) : (s.setPair S p).rmaData = s.rmaData := by cases S <;> rfl
@[simp] theorem State.setPair_rmaMode (s : State) (S : PairSource) (p : Pair) : (s.setPair S p).rmaMode = s.rmaMode := by cases S <;> rfl
@[simp] theorem State.setPair_rmaSave (s : State) (S : PairSource) (p : Pair) : (s.setPair S p).rmaSave = s.rmaSave := by cases S <;> rfl
@[simp] theorem State.setPair_rmaDcount (s : State) (S : PairSource) (p : Pair) : (s.setPair S p).rmaDcount = s.rmaDcount := by cases S <;> rfl
@[simp] theorem State.setPair_refused (s : State) (S : PairSource) (p : Pair) : (s.setPair S p).refused = s.refused := by cases S <;> rfl
@[simp] theorem State.setPair_inbox (s : State) (S : PairSource) (p : Pair) : (s.setPair S p).inbox = s.inbox := by cases S <;> rfl
@[simp] theorem State.setPair_answers (s : State) (S : PairSource) (p : Pair) : (s.setPair S p).answers = s.answers := by cases S <;> rfl
@[simp] theorem State.setPair_drawCount (s : State) (S : PairSource) (p : Pair) : (s.setPair S p).drawCount = s.drawCount := by cases S <;> rfl
@[simp] theorem State.setPair_calls (s : State) (S : PairSource) (p : Pair) : (s.setPair S p).calls = s.calls := by cases S <;> rfl
@[simp] theorem State.setPair_response (s : State) (S : PairSource) (p : Pair) : (s.setPair S p).response = s.response := by cases S <;> rfl
@[simp] theorem State.setPair_divider (s : State) (S : PairSource) (p : Pair) (d : Gen) : (s.setPair S p).divider d = s.divider d := by cases d <;> simp [State.divider]
@[simp] theorem State.setPair_timer (s : State) (S : PairSource) (p : Pair) (d : Gen) : (s.setPair S p).timer d = s.timer d := by cases d <;> simp [State.timer]
@[simp] theorem State.setPair_pair_self (s : State) (S : PairSource) (p : Pair) : (s.setPair S p).pair S = p := by cases S <;> rfl
theorem State.setPair_pair (s : State) (S P : PairSource) (p : Pair) :
    (s.setPair S p).pair P = if P = S then p else s.pair P := by cases S <;> cases P <;> rfl

/-! ### `State.setStatus` -/

@[simp] theorem State.setStatus_cfg (s : State) (S : PairSource) (w : Word) : (s.setStatus S w).cfg = s.cfg := by simp [State.setStatus]
@[simp] theorem State.setStatus_agg (s : State) (S : PairSource) (w : Word) : (s.setStatus S w).agg = s.agg := by simp [State.setStatus]
@[simp] theorem State.setStatus_swStatus (s : State) (S : PairSource) (w : Word) : (s.setStatus S w).swStatus = s.swStatus := by simp [State.setStatus]
@[simp] theorem State.setStatus_globalEnHw (s : State) (S : PairSource) (w : Word) : (s.setStatus S w).globalEnHw = s.globalEnHw := by simp [State.setStatus]
@[simp] theorem State.setStatus_globalEnSw (s : State) (S : PairSource) (w : Word) : (s.setStatus S w).globalEnSw = s.globalEnSw := by simp [State.setStatus]
@[simp] theorem State.setStatus_pmcEnable (s : State) (S : PairSource) (w : Word) : (s.setStatus S w).pmcEnable = s.pmcEnable := by simp [State.setStatus]
@[simp] theorem State.setStatus_gr0Pend (s : State) (S : PairSource) (w : Word) : (s.setStatus S w).gr0Pend = s.gr0Pend := by simp [State.setStatus]
@[simp] theorem State.setStatus_gr1Pend (s : State) (S : PairSource) (w : Word) : (s.setStatus S w).gr1Pend = s.gr1Pend := by simp [State.setStatus]
@[simp] theorem State.setStatus_pfbConfig0 (s : State) (S : PairSource) (w : Word) : (s.setStatus S w).pfbConfig0 = s.pfbConfig0 := by simp [State.setStatus]
@[simp] theorem State.setStatus_vclkDiv (s : State) (S : PairSource) (w : Word) : (s.setStatus S w).vclkDiv = s.vclkDiv := by simp [State.setStatus]
@[simp] theorem State.setStatus_mclkDiv (s : State) (S : PairSource) (w : Word) : (s.setStatus S w).mclkDiv = s.mclkDiv := by simp [State.setStatus]
@[simp] theorem State.setStatus_vclkTimer (s : State) (S : PairSource) (w : Word) : (s.setStatus S w).vclkTimer = s.vclkTimer := by simp [State.setStatus]
@[simp] theorem State.setStatus_mclkTimer (s : State) (S : PairSource) (w : Word) : (s.setStatus S w).mclkTimer = s.mclkTimer := by simp [State.setStatus]
@[simp] theorem State.setStatus_dead (s : State) (S : PairSource) (w : Word) : (s.setStatus S w).dead = s.dead := by simp [State.setStatus]
@[simp] theorem State.setStatus_time (s : State) (S : PairSource) (w : Word) : (s.setStatus S w).time = s.time := by simp [State.setStatus]
@[simp] theorem State.setStatus_num (s : State) (S : PairSource) (w : Word) : (s.setStatus S w).num = s.num := by simp [State.setStatus]
@[simp] theorem State.setStatus_den (s : State) (S : PairSource) (w : Word) : (s.setStatus S w).den = s.den := by simp [State.setStatus]
@[simp] theorem State.setStatus_alarm (s : State) (S : PairSource) (w : Word) : (s.setStatus S w).alarm = s.alarm := by simp [State.setStatus]
@[simp] theorem State.setStatus_line (s : State) (S : PairSource) (w : Word) : (s.setStatus S w).line = s.line := by simp [State.setStatus]
@[simp] theorem State.setStatus_rmaAddr (s : State) (S : PairSource) (w : Word) : (s.setStatus S w).rmaAddr = s.rmaAddr := by simp [State.setStatus]
@[simp] theorem State.setStatus_rmaData (s : State) (S : PairSource) (w : Word) : (s.setStatus S w).rmaData = s.rmaData := by simp [State.setStatus]
@[simp] theorem State.setStatus_rmaMode (s : State) (S : PairSource) (w : Word) : (s.setStatus S w).rmaMode = s.rmaMode := by simp [State.setStatus]
@[simp] theorem State.setStatus_rmaSave (s : State) (S : PairSource) (w : Word) : (s.setStatus S w).rmaSave = s.rmaSave := by simp [State.setStatus]
@[simp] theorem State.setStatus_rmaDcount (s : State) (S : PairSource) (w : Word) : (s.setStatus S w).rmaDcount = s.rmaDcount := by simp [State.setStatus]
@[simp] theorem State.setStatus_refused (s : State) (S : PairSource) (w : Word) : (s.setStatus S w).refused = s.refused := by simp [State.setStatus]
@[simp] theorem State.setStatus_inbox (s : State) (S : PairSource) (w : Word) : (s.setStatus S w).inbox = s.inbox := by simp [State.setStatus]
@[simp] theorem State.setStatus_answers (s : State) (S : PairSource) (w : Word) : (s.setStatus S w).answers = s.answers := by simp [State.setStatus]
@[simp] theorem State.setStatus_drawCount (s : State) (S : PairSource) (w : Word) : (s.setStatus S w).drawCount = s.drawCount := by simp [State.setStatus]
@[simp] theorem State.setStatus_calls (s : State) (S : PairSource) (w : Word) : (s.setStatus S w).calls = s.calls := by simp [State.setStatus]
@[simp] theorem State.setStatus_response (s : State) (S : PairSource) (w : Word) : (s.setStatus S w).response = s.response := by simp [State.setStatus]
@[simp] theorem State.setStatus_divider (s : State) (S : PairSource) (w : Word) (d : Gen) : (s.setStatus S w).divider d = s.divider d := by cases d <;> simp [State.divider]
@[simp] theorem State.setStatus_timer (s : State) (S : PairSource) (w : Word) (d : Gen) : (s.setStatus S w).timer d = s.timer d := by cases d <;> simp [State.timer]
theorem State.setStatus_pair (s : State) (S P : PairSource) (w : Word) :
    (s.setStatus S w).pair P = if P = S then { s.pair S with status := w } else s.pair P := by
  simp [State.setStatus, State.setPair_pair]

/-! ### `State.setEnable` -/

@[simp] theorem State.setEnable_cfg (s : State) (S : PairSource) (w : Word) : (s.setEnable S w).cfg = s.cfg := by simp [State.setEnable]
@[simp] theorem State.setEnable_agg (s : State) (S : PairSource) (w : Word) : (s.setEnable S w).agg = s.agg := by simp [State.setEnable]
@[simp] theorem State.setEnable_swStatus (s : State) (S : PairSource) (w : Word) : (s.setEnable S w).swStatus = s.swStatus := by simp [State.setEnable]
@[simp] theorem State.setEnable_globalEnHw (s : State) (S : PairSource) (w : Word) : (s.setEnable S w).globalEnHw = s.globalEnHw := by simp [State.setEnable]
@[simp] theorem State.setEnable_globalEnSw (s : State) (S : PairSource) (w : Word) : (s.setEnable S w).globalEnSw = s.globalEnSw := by simp [State.setEnable]
@[simp] theorem State.setEnable_pmcEnable (s : State) (S : PairSource) (w : Word) : (s.setEnable S w).pmcEnable = s.pmcEnable := by simp [State.setEnable]
@[simp] theorem State.setEnable_gr0Pend (s : State) (S : PairSource) (w : Word) : (s.setEnable S w).gr0Pend = s.gr0Pend := by simp [State.setEnable]
@[simp] theorem State.setEnable_gr1Pend (s : State) (S : PairSource) (w : Word) : (s.setEnable S w).gr1Pend = s.gr1Pend := by simp [State.setEnable]
@[simp] theorem State.setEnable_pfbConfig0 (s : State) (S : PairSource) (w : Word) : (s.setEnable S w).pfbConfig0 = s.pfbConfig0 := by simp [State.setEnable]
@[simp] theorem State.setEnable_vclkDiv (s : State) (S : PairSource) (w : Word) : (s.setEnable S w).vclkDiv = s.vclkDiv := by simp [State.setEnable]
@[simp] theorem State.setEnable_mclkDiv (s : State) (S : PairSource) (w : Word) : (s.setEnable S w).mclkDiv = s.mclkDiv := by simp [State.setEnable]
@[simp] theorem State.setEnable_vclkTimer (s : State) (S : PairSource) (w : Word) : (s.setEnable S w).vclkTimer = s.vclkTimer := by simp [State.setEnable]
@[simp] theorem State.setEnable_mclkTimer (s : State) (S : PairSource) (w : Word) : (s.setEnable S w).mclkTimer = s.mclkTimer := by simp [State.setEnable]
@[simp] theorem State.setEnable_dead (s : State) (S : PairSource) (w : Word) : (s.setEnable S w).dead = s.dead := by simp [State.setEnable]
@[simp] theorem State.setEnable_time (s : State) (S : PairSource) (w : Word) : (s.setEnable S w).time = s.time := by simp [State.setEnable]
@[simp] theorem State.setEnable_num (s : State) (S : PairSource) (w : Word) : (s.setEnable S w).num = s.num := by simp [State.setEnable]
@[simp] theorem State.setEnable_den (s : State) (S : PairSource) (w : Word) : (s.setEnable S w).den = s.den := by simp [State.setEnable]
@[simp] theorem State.setEnable_alarm (s : State) (S : PairSource) (w : Word) : (s.setEnable S w).alarm = s.alarm := by simp [State.setEnable]
@[simp] theorem State.setEnable_line (s : State) (S : PairSource) (w : Word) : (s.setEnable S w).line = s.line := by simp [State.setEnable]
@[simp] theorem State.setEnable_rmaAddr (s : State) (S : PairSource) (w : Word) : (s.setEnable S w).rmaAddr = s.rmaAddr := by simp [State.setEnable]
@[simp] theorem State.setEnable_rmaData (s : State) (S : PairSource) (w : Word) : (s.setEnable S w).rmaData = s.rmaData := by simp [State.setEnable]
@[simp] theorem State.setEnable_rmaMode (s : State) (S : PairSource) (w : Word) : (s.setEnable S w).rmaMode = s.rmaMode := by simp [State.setEnable]
@[simp] theorem State.setEnable_rmaSave (s : State) (S : PairSource) (w : Word) : (s.setEnable S w).rmaSave = s.rmaSave := by simp [State.setEnable]
@[simp] theorem State.setEnable_rmaDcount (s : State) (S : PairSource) (w : Word) : (s.setEnable S w).rmaDcount = s.rmaDcount := by simp [State.setEnable]
@[simp] theorem State.setEnable_refused (s : State) (S : PairSource) (w : Word) : (s.setEnable S w).refused = s.refused := by simp [State.setEnable]
@[simp] theorem State.setEnable_inbox (s : State) (S : PairSource) (w : Word) : (s.setEnable S w).inbox = s.inbox := by simp [State.setEnable]
@[simp] theorem State.setEnable_answers (s : State) (S : PairSource) (w : Word) : (s.setEnable S w).answers = s.answers := by simp [State.setEnable]
@[simp] theorem State.setEnable_drawCount (s : State) (S : PairSource) (w : Word) : (s.setEnable S w).drawCount = s.drawCount := by simp [State.setEnable]
@[simp] theorem State.setEnable_calls (s : State) (S : PairSource) (w : Word) : (s.setEnable S w).calls = s.calls := by simp [State.setEnable]
@[simp] theorem State.setEnable_response (s : State) (S : PairSource) (w : Word) : (s.setEnable S w).response = s.response := by simp [State.setEnable]
@[simp] theorem State.setEnable_divider (s : State) (S : PairSource) (w : Word) (d : Gen) : (s.setEnable S w).divider d = s.divider d := by cases d <;> simp [State.divider]
@[simp] theorem State.setEnable_timer (s : State) (S : PairSource) (w : Word) (d : Gen) : (s.setEnable S w).timer d = s.timer d := by cases d <;> simp [State.timer]
theorem State.setEnable_pair (s : State) (S P : PairSource) (w : Word) :
    (s.setEnable S w).pair P = if P = S then { s.pair S with enable := w } else s.pair P := by
  simp [State.setEnable, State.setPair_pair]

/-! ### `State.setDivider` -/

@[simp] theorem State.setDivider_cfg (s : State) (g : Gen) (d' : Divider) : (s.setDivider g d').cfg = s.cfg := by cases g <;> rfl
@[simp] theorem State.setDivider_agg (s : State) (g : Gen) (d' : Divider) : (s.setDivider g d').agg = s.agg := by cases g <;> rfl
@[simp] theorem State.setDivider_swStatus (s : State) (g : Gen) (d' : Divider) : (s.setDivider g d').swStatus = s.swStatus := by cases g <;> rfl
@[simp] theorem State.setDivider_globalEnHw (s : State) (g : Gen) (d' : Divider) : (s.setDivider g d').globalEnHw = s.globalEnHw := by cases g <;> rfl
@[simp] theorem State.setDivider_globalEnSw (s : State) (g : Gen) (d' : Divider) : (s.setDivider g d').globalEnSw = s.globalEnSw := by cases g <;> rfl
@[simp] theorem State.setDivider_pmcEnable (s : State) (g : Gen) (d' : Divider) : (s.setDivider g d').pmcEnable = s.pmcEnable := by cases g <;> rfl
@[simp] theorem State.setDivider_pme (s : State) (g : Gen) (d' : Divider) : (s.setDivider g d').pme = s.pme := by cases g <;> rfl
@[simp] theorem State.setDivider_pfifo (s : State) (g : Gen) (d' : Divider) : (s.setDivider g d').pfifo = s.pfifo := by cases g <;> rfl
@[simp] theorem State.setDivider_pvideo (s : State) (g : Gen) (d' : Divider) : (s.setDivider g d').pvideo = s.pvideo := by cases g <;> rfl
@[simp] theorem State.setDivider_ptimer (s : State) (g : Gen) (d' : Divider) : (s.setDivider g d').ptimer = s.ptimer := by cases g <;> rfl
@[simp] theorem State.setDivider_pbus (s : State) (g : Gen) (d' : Divider) : (s.setDivider g d').pbus = s.pbus := by cases g <;> rfl
@[simp] theorem State.setDivider_gr0Pend (s : State) (g : Gen) (d' : Divider) : (s.setDivider g d').gr0Pend = s.gr0Pend := by cases g <;> rfl
@[simp] theorem State.setDivider_gr1Pend (s : State) (g : Gen) (d' : Divider) : (s.setDivider g d').gr1Pend = s.gr1Pend := by cases g <;> rfl
@[simp] theorem State.setDivider_pfbConfig0 (s : State) (g : Gen) (d' : Divider) : (s.setDivider g d').pfbConfig0 = s.pfbConfig0 := by cases g <;> rfl
@[simp] theorem State.setDivider_vclkTimer (s : State) (g : Gen) (d' : Divider) : (s.setDivider g d').vclkTimer = s.vclkTimer := by cases g <;> rfl
@[simp] theorem State.setDivider_mclkTimer (s : State) (g : Gen) (d' : Divider) : (s.setDivider g d').mclkTimer = s.mclkTimer := by cases g <;> rfl
@[simp] theorem State.setDivider_dead (s : State) (g : Gen) (d' : Divider) : (s.setDivider g d').dead = s.dead := by cases g <;> rfl
@[simp] theorem State.setDivider_time (s : State) (g : Gen) (d' : Divider) : (s.setDivider g d').time = s.time := by cases g <;> rfl
@[simp] theorem State.setDivider_num (s : State) (g : Gen) (d' : Divider) : (s.setDivider g d').num = s.num := by cases g <;> rfl
@[simp] theorem State.setDivider_den (s : State) (g : Gen) (d' : Divider) : (s.setDivider g d').den = s.den := by cases g <;> rfl
@[simp] theorem State.setDivider_alarm (s : State) (g : Gen) (d' : Divider) : (s.setDivider g d').alarm = s.alarm := by cases g <;> rfl
@[simp] theorem State.setDivider_line (s : State) (g : Gen) (d' : Divider) : (s.setDivider g d').line = s.line := by cases g <;> rfl
@[simp] theorem State.setDivider_rmaAddr (s : State) (g : Gen) (d' : Divider) : (s.setDivider g d').rmaAddr = s.rmaAddr := by cases g <;> rfl
@[simp] theorem State.setDivider_rmaData (s : State) (g : Gen) (d' : Divider) : (s.setDivider g d').rmaData = s.rmaData := by cases g <;> rfl
@[simp] theorem State.setDivider_rmaMode (s : State) (g : Gen) (d' : Divider) : (s.setDivider g d').rmaMode = s.rmaMode := by cases g <;> rfl
@[simp] theorem State.setDivider_rmaSave (s : State) (g : Gen) (d' : Divider) : (s.setDivider g d').rmaSave = s.rmaSave := by cases g <;> rfl
@[simp] theorem State.setDivider_rmaDcount (s : State) (g : Gen) (d' : Divider) : (s.setDivider g d').rmaDcount = s.rmaDcount := by cases g <;> rfl
@[simp] theorem State.setDivider_refused (s : State) (g : Gen) (d' : Divider) : (s.setDivider g d').refused = s.refused := by cases g <;> rfl
@[simp] theorem State.setDivider_inbox (s : State) (g : Gen) (d' : Divider) : (s.setDivider g d').inbox = s.inbox := by cases g <;> rfl
@[simp] theorem State.setDivider_answers (s : State) (g : Gen) (d' : Divider) : (s.setDivider g d').answers = s.answers := by cases g <;> rfl
@[simp] theorem State.setDivider_drawCount (s : State) (g : Gen) (d' : Divider) : (s.setDivider g d').drawCount = s.drawCount := by cases g <;> rfl
@[simp] theorem State.setDivider_calls (s : State) (g : Gen) (d' : Divider) : (s.setDivider g d').calls = s.calls := by cases g <;> rfl
@[simp] theorem State.setDivider_response (s : State) (g : Gen) (d' : Divider) : (s.setDivider g d').response = s.response := by cases g <;> rfl
@[simp] theorem State.setDivider_pair (s : State) (g : Gen) (d' : Divider) (P : PairSource) : (s.setDivider g d').pair P = s.pair P := by cases P <;> simp [State.pair]
@[simp] theorem State.setDivider_timer (s : State) (g : Gen) (d' : Divider) (d : Gen) : (s.setDivider g d').timer d = s.timer d := by cases d <;> simp [State.timer]
theorem State.setDivider_divider (s : State) (g k : Gen) (d' : Divider) :
    (s.setDivider g d').divider k = if k = g then d' else s.divider k := by cases g <;> cases k <;> rfl

/-! ### `State.setTimer` -/

@[simp] theorem State.setTimer_cfg (s : State) (g : Gen) (t : HostTimer) : (s.setTimer g t).cfg = s.cfg := by cases g <;> rfl
@[simp] theorem State.setTimer_agg (s : State) (g : Gen) (t : HostTimer) : (s.setTimer g t).agg = s.agg := by cases g <;> rfl
@[simp] theorem State.setTimer_swStatus (s : State) (g : Gen) (t : HostTimer) : (s.setTimer g t).swStatus = s.swStatus := by cases g <;> rfl
@[simp] theorem State.setTimer_globalEnHw (s : State) (g : Gen) (t : HostTimer) : (s.setTimer g t).globalEnHw = s.globalEnHw := by cases g <;> rfl
@[simp] theorem State.setTimer_globalEnSw (s : State) (g : Gen) (t : HostTimer) : (s.setTimer g t).globalEnSw = s.globalEnSw := by cases g <;> rfl
@[simp] theorem State.setTimer_pmcEnable (s : State) (g : Gen) (t : HostTimer) : (s.setTimer g t).pmcEnable = s.pmcEnable := by cases g <;> rfl
@[simp] theorem State.setTimer_pme (s : State) (g : Gen) (t : HostTimer) : (s.setTimer g t).pme = s.pme := by cases g <;> rfl
@[simp] theorem State.setTimer_pfifo (s : State) (g : Gen) (t : HostTimer) : (s.setTimer g t).pfifo = s.pfifo := by cases g <;> rfl
@[simp] theorem State.setTimer_pvideo (s : State) (g : Gen) (t : HostTimer) : (s.setTimer g t).pvideo = s.pvideo := by cases g <;> rfl
@[simp] theorem State.setTimer_ptimer (s : State) (g : Gen) (t : HostTimer) : (s.setTimer g t).ptimer = s.ptimer := by cases g <;> rfl
@[simp] theorem State.setTimer_pbus (s : State) (g : Gen) (t : HostTimer) : (s.setTimer g t).pbus = s.pbus := by cases g <;> rfl
@[simp] theorem State.setTimer_gr0Pend (s : State) (g : Gen) (t : HostTimer) : (s.setTimer g t).gr0Pend = s.gr0Pend := by cases g <;> rfl
@[simp] theorem State.setTimer_gr1Pend (s : State) (g : Gen) (t : HostTimer) : (s.setTimer g t).gr1Pend = s.gr1Pend := by cases g <;> rfl
@[simp] theorem State.setTimer_pfbConfig0 (s : State) (g : Gen) (t : HostTimer) : (s.setTimer g t).pfbConfig0 = s.pfbConfig0 := by cases g <;> rfl
@[simp] theorem State.setTimer_vclkDiv (s : State) (g : Gen) (t : HostTimer) : (s.setTimer g t).vclkDiv = s.vclkDiv := by cases g <;> rfl
@[simp] theorem State.setTimer_mclkDiv (s : State) (g : Gen) (t : HostTimer) : (s.setTimer g t).mclkDiv = s.mclkDiv := by cases g <;> rfl
@[simp] theorem State.setTimer_dead (s : State) (g : Gen) (t : HostTimer) : (s.setTimer g t).dead = s.dead := by cases g <;> rfl
@[simp] theorem State.setTimer_time (s : State) (g : Gen) (t : HostTimer) : (s.setTimer g t).time = s.time := by cases g <;> rfl
@[simp] theorem State.setTimer_num (s : State) (g : Gen) (t : HostTimer) : (s.setTimer g t).num = s.num := by cases g <;> rfl
@[simp] theorem State.setTimer_den (s : State) (g : Gen) (t : HostTimer) : (s.setTimer g t).den = s.den := by cases g <;> rfl
@[simp] theorem State.setTimer_alarm (s : State) (g : Gen) (t : HostTimer) : (s.setTimer g t).alarm = s.alarm := by cases g <;> rfl
@[simp] theorem State.setTimer_line (s : State) (g : Gen) (t : HostTimer) : (s.setTimer g t).line = s.line := by cases g <;> rfl
@[simp] theorem State.setTimer_rmaAddr (s : State) (g : Gen) (t : HostTimer) : (s.setTimer g t).rmaAddr = s.rmaAddr := by cases g <;> rfl
@[simp] theorem State.setTimer_rmaData (s : State) (g : Gen) (t : HostTimer) : (s.setTimer g t).rmaData = s.rmaData := by cases g <;> rfl
@[simp] theorem State.setTimer_rmaMode (s : State) (g : Gen) (t : HostTimer) : (s.setTimer g t).rmaMode = s.rmaMode := by cases g <;> rfl
@[simp] theorem State.setTimer_rmaSave (s : State) (g : Gen) (t : HostTimer) : (s.setTimer g t).rmaSave = s.rmaSave := by cases g <;> rfl
@[simp] theorem State.setTimer_rmaDcount (s : State) (g : Gen) (t : HostTimer) : (s.setTimer g t).rmaDcount = s.rmaDcount := by cases g <;> rfl
@[simp] theorem State.setTimer_refused (s : State) (g : Gen) (t : HostTimer) : (s.setTimer g t).refused = s.refused := by cases g <;> rfl
@[simp] theorem State.setTimer_inbox (s : State) (g : Gen) (t : HostTimer) : (s.setTimer g t).inbox = s.inbox := by cases g <;> rfl
@[simp] theorem State.setTimer_answers (s : State) (g : Gen) (t : HostTimer) : (s.setTimer g t).answers = s.answers := by cases g <;> rfl
@[simp] theorem State.setTimer_drawCount (s : State) (g : Gen) (t : HostTimer) : (s.setTimer g t).drawCount = s.drawCount := by cases g <;> rfl
@[simp] theorem State.setTimer_calls (s : State) (g : Gen) (t : HostTimer) : (s.setTimer g t).calls = s.calls := by cases g <;> rfl
@[simp] theorem State.setTimer_response (s : State) (g : Gen) (t : HostTimer) : (s.setTimer g t).response = s.response := by cases g <;> rfl
@[simp] theorem State.setTimer_pair (s : State) (g : Gen) (t : HostTimer) (P : PairSource) : (s.setTimer g t).pair P = s.pair P := by cases P <;> simp [State.pair]
@[simp] theorem State.setTimer_divider (s : State) (g : Gen) (t : HostTimer) (d : Gen) : (s.setTimer g t).divider d = s.divider d := by cases d <;> simp [State.divider]
theorem State.setTimer_timer (s : State) (g k : Gen) (t : HostTimer) :
    (s.setTimer g t).timer k = if k = g then t else s.timer k := by cases g <;> cases k <;> rfl

/-! ### `State.afterAnswer` -/

@[simp] theorem State.afterAnswer_cfg (s : State) : (s.afterAnswer).cfg = s.cfg := by unfold State.afterAnswer; split <;> rfl
@[simp] theorem State.afterAnswer_agg (s : State) : (s.afterAnswer).agg = s.agg := by unfold State.afterAnswer; split <;> rfl
@[simp] theorem State.afterAnswer_swStatus (s : State) : (s.afterAnswer).swStatus = s.swStatus := by unfold State.afterAnswer; split <;> rfl
@[simp] theorem State.afterAnswer_globalEnHw (s : State) : (s.afterAnswer).globalEnHw = s.globalEnHw := by unfold State.afterAnswer; split <;> rfl
@[simp] theorem State.afterAnswer_globalEnSw (s : State) : (s.afterAnswer).globalEnSw = s.globalEnSw := by unfold State.afterAnswer; split <;> rfl
@[simp] theorem State.afterAnswer_pmcEnable (s : State) : (s.afterAnswer).pmcEnable = s.pmcEnable := by unfold State.afterAnswer; split <;> rfl
@[simp] theorem State.afterAnswer_pme (s : State) : (s.afterAnswer).pme = s.pme := by unfold State.afterAnswer; split <;> rfl
@[simp] theorem State.afterAnswer_pfifo (s : State) : (s.afterAnswer).pfifo = s.pfifo := by unfold State.afterAnswer; split <;> rfl
@[simp] theorem State.afterAnswer_pvideo (s : State) : (s.afterAnswer).pvideo = s.pvideo := by unfold State.afterAnswer; split <;> rfl
@[simp] theorem State.afterAnswer_ptimer (s : State) : (s.afterAnswer).ptimer = s.ptimer := by unfold State.afterAnswer; split <;> rfl
@[simp] theorem State.afterAnswer_pbus (s : State) : (s.afterAnswer).pbus = s.pbus := by unfold State.afterAnswer; split <;> rfl
@[simp] theorem State.afterAnswer_gr0Pend (s : State) : (s.afterAnswer).gr0Pend = s.gr0Pend := by unfold State.afterAnswer; split <;> rfl
@[simp] theorem State.afterAnswer_gr1Pend (s : State) : (s.afterAnswer).gr1Pend = s.gr1Pend := by unfold State.afterAnswer; split <;> rfl
@[simp] theorem State.afterAnswer_pfbConfig0 (s : State) : (s.afterAnswer).pfbConfig0 = s.pfbConfig0 := by unfold State.afterAnswer; split <;> rfl
@[simp] theorem State.afterAnswer_vclkDiv (s : State) : (s.afterAnswer).vclkDiv = s.vclkDiv := by unfold State.afterAnswer; split <;> rfl
@[simp] theorem State.afterAnswer_mclkDiv (s : State) : (s.afterAnswer).mclkDiv = s.mclkDiv := by unfold State.afterAnswer; split <;> rfl
@[simp] theorem State.afterAnswer_vclkTimer (s : State) : (s.afterAnswer).vclkTimer = s.vclkTimer := by unfold State.afterAnswer; split <;> rfl
@[simp] theorem State.afterAnswer_mclkTimer (s : State) : (s.afterAnswer).mclkTimer = s.mclkTimer := by unfold State.afterAnswer; split <;> rfl
@[simp] theorem State.afterAnswer_dead (s : State) : (s.afterAnswer).dead = s.dead := by unfold State.afterAnswer; split <;> rfl
@[simp] theorem State.afterAnswer_time (s : State) : (s.afterAnswer).time = s.time := by unfold State.afterAnswer; split <;> rfl
@[simp] theorem State.afterAnswer_num (s : State) : (s.afterAnswer).num = s.num := by unfold State.afterAnswer; split <;> rfl
@[simp] theorem State.afterAnswer_den (s : State) : (s.afterAnswer).den = s.den := by unfold State.afterAnswer; split <;> rfl
@[simp] theorem State.afterAnswer_alarm (s : State) : (s.afterAnswer).alarm = s.alarm := by unfold State.afterAnswer; split <;> rfl
@[simp] theorem State.afterAnswer_line (s : State) : (s.afterAnswer).line = s.line := by unfold State.afterAnswer; split <;> rfl
@[simp] theorem State.afterAnswer_rmaAddr (s : State) : (s.afterAnswer).rmaAddr = s.rmaAddr := by unfold State.afterAnswer; split <;> rfl
@[simp] theorem State.afterAnswer_rmaData (s : State) : (s.afterAnswer).rmaData = s.rmaData := by unfold State.afterAnswer; split <;> rfl
@[simp] theorem State.afterAnswer_rmaMode (s : State) : (s.afterAnswer).rmaMode = s.rmaMode := by unfold State.afterAnswer; split <;> rfl
@[simp] theorem State.afterAnswer_rmaSave (s : State) : (s.afterAnswer).rmaSave = s.rmaSave := by unfold State.afterAnswer; split <;> rfl
@[simp] theorem State.afterAnswer_rmaDcount (s : State) : (s.afterAnswer).rmaDcount = s.rmaDcount := by unfold State.afterAnswer; split <;> rfl
@[simp] theorem State.afterAnswer_refused (s : State) : (s.afterAnswer).refused = s.refused := by unfold State.afterAnswer; split <;> rfl
@[simp] theorem State.afterAnswer_inbox (s : State) : (s.afterAnswer).inbox = s.inbox := by unfold State.afterAnswer; split <;> rfl
@[simp] theorem State.afterAnswer_calls (s : State) : (s.afterAnswer).calls = s.calls := by unfold State.afterAnswer; split <;> rfl
@[simp] theorem State.afterAnswer_response (s : State) : (s.afterAnswer).response = s.response := by unfold State.afterAnswer; split <;> rfl
@[simp] theorem State.afterAnswer_pair (s : State) (P : PairSource) : (s.afterAnswer).pair P = s.pair P := by cases P <;> simp [State.pair]
@[simp] theorem State.afterAnswer_divider (s : State) (d : Gen) : (s.afterAnswer).divider d = s.divider d := by cases d <;> simp [State.divider]
@[simp] theorem State.afterAnswer_timer (s : State) (d : Gen) : (s.afterAnswer).timer d = s.timer d := by cases d <;> simp [State.timer]
@[simp] theorem State.afterAnswer_answers (s : State) : s.afterAnswer.answers = s.answers.drop 1 := by
  unfold State.afterAnswer; split <;> simp_all
@[simp] theorem State.afterAnswer_drawCount (s : State) :
    s.afterAnswer.drawCount = s.drawCount + (1 - s.answers.length) := by
  unfold State.afterAnswer; split <;> simp_all

/-! ### `State.drive` -/

@[simp] theorem State.drive_cfg (s : State) (x : LineAction) : (s.drive x).cfg = s.cfg := by cases x <;> rfl
@[simp] theorem State.drive_agg (s : State) (x : LineAction) : (s.drive x).agg = s.agg := by cases x <;> rfl
@[simp] theorem State.drive_swStatus (s : State) (x : LineAction) : (s.drive x).swStatus = s.swStatus := by cases x <;> rfl
@[simp] theorem State.drive_globalEnHw (s : State) (x : LineAction) : (s.drive x).globalEnHw = s.globalEnHw := by cases x <;> rfl
@[simp] theorem State.drive_globalEnSw (s : State) (x : LineAction) : (s.drive x).globalEnSw = s.globalEnSw := by cases x <;> rfl
@[simp] theorem State.drive_pmcEnable (s : State) (x : LineAction) : (s.drive x).pmcEnable = s.pmcEnable := by cases x <;> rfl
@[simp] theorem State.drive_pme (s : State) (x : LineAction) : (s.drive x).pme = s.pme := by cases x <;> rfl
@[simp] theorem State.drive_pfifo (s : State) (x : LineAction) : (s.drive x).pfifo = s.pfifo := by cases x <;> rfl
@[simp] theorem State.drive_pvideo (s : State) (x : LineAction) : (s.drive x).pvideo = s.pvideo := by cases x <;> rfl
@[simp] theorem State.drive_ptimer (s : State) (x : LineAction) : (s.drive x).ptimer = s.ptimer := by cases x <;> rfl
@[simp] theorem State.drive_pbus (s : State) (x : LineAction) : (s.drive x).pbus = s.pbus := by cases x <;> rfl
@[simp] theorem State.drive_gr0Pend (s : State) (x : LineAction) : (s.drive x).gr0Pend = s.gr0Pend := by cases x <;> rfl
@[simp] theorem State.drive_gr1Pend (s : State) (x : LineAction) : (s.drive x).gr1Pend = s.gr1Pend := by cases x <;> rfl
@[simp] theorem State.drive_pfbConfig0 (s : State) (x : LineAction) : (s.drive x).pfbConfig0 = s.pfbConfig0 := by cases x <;> rfl
@[simp] theorem State.drive_vclkDiv (s : State) (x : LineAction) : (s.drive x).vclkDiv = s.vclkDiv := by cases x <;> rfl
@[simp] theorem State.drive_mclkDiv (s : State) (x : LineAction) : (s.drive x).mclkDiv = s.mclkDiv := by cases x <;> rfl
@[simp] theorem State.drive_vclkTimer (s : State) (x : LineAction) : (s.drive x).vclkTimer = s.vclkTimer := by cases x <;> rfl
@[simp] theorem State.drive_mclkTimer (s : State) (x : LineAction) : (s.drive x).mclkTimer = s.mclkTimer := by cases x <;> rfl
@[simp] theorem State.drive_dead (s : State) (x : LineAction) : (s.drive x).dead = s.dead := by cases x <;> rfl
@[simp] theorem State.drive_time (s : State) (x : LineAction) : (s.drive x).time = s.time := by cases x <;> rfl
@[simp] theorem State.drive_num (s : State) (x : LineAction) : (s.drive x).num = s.num := by cases x <;> rfl
@[simp] theorem State.drive_den (s : State) (x : LineAction) : (s.drive x).den = s.den := by cases x <;> rfl
@[simp] theorem State.drive_alarm (s : State) (x : LineAction) : (s.drive x).alarm = s.alarm := by cases x <;> rfl
@[simp] theorem State.drive_rmaAddr (s : State) (x : LineAction) : (s.drive x).rmaAddr = s.rmaAddr := by cases x <;> rfl
@[simp] theorem State.drive_rmaData (s : State) (x : LineAction) : (s.drive x).rmaData = s.rmaData := by cases x <;> rfl
@[simp] theorem State.drive_rmaMode (s : State) (x : LineAction) : (s.drive x).rmaMode = s.rmaMode := by cases x <;> rfl
@[simp] theorem State.drive_rmaSave (s : State) (x : LineAction) : (s.drive x).rmaSave = s.rmaSave := by cases x <;> rfl
@[simp] theorem State.drive_rmaDcount (s : State) (x : LineAction) : (s.drive x).rmaDcount = s.rmaDcount := by cases x <;> rfl
@[simp] theorem State.drive_refused (s : State) (x : LineAction) : (s.drive x).refused = s.refused := by cases x <;> rfl
@[simp] theorem State.drive_inbox (s : State) (x : LineAction) : (s.drive x).inbox = s.inbox := by cases x <;> rfl
@[simp] theorem State.drive_answers (s : State) (x : LineAction) : (s.drive x).answers = s.answers := by cases x <;> rfl
@[simp] theorem State.drive_drawCount (s : State) (x : LineAction) : (s.drive x).drawCount = s.drawCount := by cases x <;> rfl
@[simp] theorem State.drive_response (s : State) (x : LineAction) : (s.drive x).response = s.response := by cases x <;> rfl
@[simp] theorem State.drive_pair (s : State) (x : LineAction) (P : PairSource) : (s.drive x).pair P = s.pair P := by cases P <;> simp [State.pair]
@[simp] theorem State.drive_divider (s : State) (x : LineAction) (d : Gen) : (s.drive x).divider d = s.divider d := by cases d <;> simp [State.divider]
@[simp] theorem State.drive_timer (s : State) (x : LineAction) (d : Gen) : (s.drive x).timer d = s.timer d := by cases d <;> simp [State.timer]

/-! ### `State.refreshAgg` -/

@[simp] theorem State.refreshAgg_cfg (s : State) : (s.refreshAgg).cfg = s.cfg := rfl
@[simp] theorem State.refreshAgg_swStatus (s : State) : (s.refreshAgg).swStatus = s.swStatus := rfl
@[simp] theorem State.refreshAgg_globalEnHw (s : State) : (s.refreshAgg).globalEnHw = s.globalEnHw := rfl
@[simp] theorem State.refreshAgg_globalEnSw (s : State) : (s.refreshAgg).globalEnSw = s.globalEnSw := rfl
@[simp] theorem State.refreshAgg_pmcEnable (s : State) : (s.refreshAgg).pmcEnable = s.pmcEnable := rfl
@[simp] theorem State.refreshAgg_pme (s : State) : (s.refreshAgg).pme = s.pme := rfl
@[simp] theorem State.refreshAgg_pfifo (s : State) : (s.refreshAgg).pfifo = s.pfifo := rfl
@[simp] theorem State.refreshAgg_pvideo (s : State) : (s.refreshAgg).pvideo = s.pvideo := rfl
@[simp] theorem State.refreshAgg_ptimer (s : State) : (s.refreshAgg).ptimer = s.ptimer := rfl
@[simp] theorem State.refreshAgg_pbus (s : State) : (s.refreshAgg).pbus = s.pbus := rfl
@[simp] theorem State.refreshAgg_gr0Pend (s : State) : (s.refreshAgg).gr0Pend = s.gr0Pend := rfl
@[simp] theorem State.refreshAgg_gr1Pend (s : State) : (s.refreshAgg).gr1Pend = s.gr1Pend := rfl
@[simp] theorem State.refreshAgg_pfbConfig0 (s : State) : (s.refreshAgg).pfbConfig0 = s.pfbConfig0 := rfl
@[simp] theorem State.refreshAgg_vclkDiv (s : State) : (s.refreshAgg).vclkDiv = s.vclkDiv := rfl
@[simp] theorem State.refreshAgg_mclkDiv (s : State) : (s.refreshAgg).mclkDiv = s.mclkDiv := rfl
@[simp] theorem State.refreshAgg_vclkTimer (s : State) : (s.refreshAgg).vclkTimer = s.vclkTimer := rfl
@[simp] theorem State.refreshAgg_mclkTimer (s : State) : (s.refreshAgg).mclkTimer = s.mclkTimer := rfl
@[simp] theorem State.refreshAgg_dead (s : State) : (s.refreshAgg).dead = s.dead := rfl
@[simp] theorem State.refreshAgg_time (s : State) : (s.refreshAgg).time = s.time := rfl
@[simp] theorem State.refreshAgg_num (s : State) : (s.refreshAgg).num = s.num := rfl
@[simp] theorem State.refreshAgg_den (s : State) : (s.refreshAgg).den = s.den := rfl
@[simp] theorem State.refreshAgg_alarm (s : State) : (s.refreshAgg).alarm = s.alarm := rfl
@[simp] theorem State.refreshAgg_line (s : State) : (s.refreshAgg).line = s.line := rfl
@[simp] theorem State.refreshAgg_rmaAddr (s : State) : (s.refreshAgg).rmaAddr = s.rmaAddr := rfl
@[simp] theorem State.refreshAgg_rmaData (s : State) : (s.refreshAgg).rmaData = s.rmaData := rfl
@[simp] theorem State.refreshAgg_rmaMode (s : State) : (s.refreshAgg).rmaMode = s.rmaMode := rfl
@[simp] theorem State.refreshAgg_rmaSave (s : State) : (s.refreshAgg).rmaSave = s.rmaSave := rfl
@[simp] theorem State.refreshAgg_rmaDcount (s : State) : (s.refreshAgg).rmaDcount = s.rmaDcount := rfl
@[simp] theorem State.refreshAgg_refused (s : State) : (s.refreshAgg).refused = s.refused := rfl
@[simp] theorem State.refreshAgg_inbox (s : State) : (s.refreshAgg).inbox = s.inbox := rfl
@[simp] theorem State.refreshAgg_answers (s : State) : (s.refreshAgg).answers = s.answers := rfl
@[simp] theorem State.refreshAgg_drawCount (s : State) : (s.refreshAgg).drawCount = s.drawCount := rfl
@[simp] theorem State.refreshAgg_calls (s : State) : (s.refreshAgg).calls = s.calls := rfl
@[simp] theorem State.refreshAgg_response (s : State) : (s.refreshAgg).response = s.response := rfl
@[simp] theorem State.refreshAgg_pair (s : State) (P : PairSource) : (s.refreshAgg).pair P = s.pair P := by cases P <;> simp [State.pair]
@[simp] theorem State.refreshAgg_divider (s : State) (d : Gen) : (s.refreshAgg).divider d = s.divider d := by cases d <;> simp [State.divider]
@[simp] theorem State.refreshAgg_timer (s : State) (d : Gen) : (s.refreshAgg).timer d = s.timer d := by cases d <;> simp [State.timer]
@[simp] theorem State.refreshAgg_agg (s : State) : s.refreshAgg.agg = aggregate s := rfl

/-! ### `State.markRefused` -/

@[simp] theorem State.markRefused_cfg (s : State) : (s.markRefused).cfg = s.cfg := rfl
@[simp] theorem State.markRefused_agg (s : State) : (s.markRefused).agg = s.agg := rfl
@[simp] theorem State.markRefused_swStatus (s : State) : (s.markRefused).swStatus = s.swStatus := rfl
@[simp] theorem State.markRefused_globalEnHw (s : State) : (s.markRefused).globalEnHw = s.globalEnHw := rfl
@[simp] theorem State.markRefused_globalEnSw (s : State) : (s.markRefused).globalEnSw = s.globalEnSw := rfl
@[simp] theorem State.markRefused_pmcEnable (s : State) : (s.markRefused).pmcEnable = s.pmcEnable := rfl
@[simp] theorem State.markRefused_pme (s : State) : (s.markRefused).pme = s.pme := rfl
@[simp] theorem State.markRefused_pfifo (s : State) : (s.markRefused).pfifo = s.pfifo := rfl
@[simp] theorem State.markRefused_pvideo (s : State) : (s.markRefused).pvideo = s.pvideo := rfl
@[simp] theorem State.markRefused_ptimer (s : State) : (s.markRefused).ptimer = s.ptimer := rfl
@[simp] theorem State.markRefused_pbus (s : State) : (s.markRefused).pbus = s.pbus := rfl
@[simp] theorem State.markRefused_gr0Pend (s : State) : (s.markRefused).gr0Pend = s.gr0Pend := rfl
@[simp] theorem State.markRefused_gr1Pend (s : State) : (s.markRefused).gr1Pend = s.gr1Pend := rfl
@[simp] theorem State.markRefused_pfbConfig0 (s : State) : (s.markRefused).pfbConfig0 = s.pfbConfig0 := rfl
@[simp] theorem State.markRefused_vclkDiv (s : State) : (s.markRefused).vclkDiv = s.vclkDiv := rfl
@[simp] theorem State.markRefused_mclkDiv (s : State) : (s.markRefused).mclkDiv = s.mclkDiv := rfl
@[simp] theorem State.markRefused_vclkTimer (s : State) : (s.markRefused).vclkTimer = s.vclkTimer := rfl
@[simp] theorem State.markRefused_mclkTimer (s : State) : (s.markRefused).mclkTimer = s.mclkTimer := rfl
@[simp] theorem State.markRefused_dead (s : State) : (s.markRefused).dead = s.dead := rfl
@[simp] theorem State.markRefused_time (s : State) : (s.markRefused).time = s.time := rfl
@[simp] theorem State.markRefused_num (s : State) : (s.markRefused).num = s.num := rfl
@[simp] theorem State.markRefused_den (s : State) : (s.markRefused).den = s.den := rfl
@[simp] theorem State.markRefused_alarm (s : State) : (s.markRefused).alarm = s.alarm := rfl
@[simp] theorem State.markRefused_line (s : State) : (s.markRefused).line = s.line := rfl
@[simp] theorem State.markRefused_rmaAddr (s : State) : (s.markRefused).rmaAddr = s.rmaAddr := rfl
@[simp] theorem State.markRefused_rmaData (s : State) : (s.markRefused).rmaData = s.rmaData := rfl
@[simp] theorem State.markRefused_rmaMode (s : State) : (s.markRefused).rmaMode = s.rmaMode := rfl
@[simp] theorem State.markRefused_rmaSave (s : State) : (s.markRefused).rmaSave = s.rmaSave := rfl
@[simp] theorem State.markRefused_rmaDcount (s : State) : (s.markRefused).rmaDcount = s.rmaDcount := rfl
@[simp] theorem State.markRefused_refused (s : State) : (s.markRefused).refused = true := rfl
@[simp] theorem State.markRefused_inbox (s : State) : (s.markRefused).inbox = s.inbox := rfl
@[simp] theorem State.markRefused_answers (s : State) : (s.markRefused).answers = s.answers := rfl
@[simp] theorem State.markRefused_drawCount (s : State) : (s.markRefused).drawCount = s.drawCount := rfl
@[simp] theorem State.markRefused_calls (s : State) : (s.markRefused).calls = s.calls := rfl
@[simp] theorem State.markRefused_response (s : State) : (s.markRefused).response = s.response := rfl
@[simp] theorem State.markRefused_pair (s : State) (P : PairSource) : (s.markRefused).pair P = s.pair P := by cases P <;> rfl
@[simp] theorem State.markRefused_divider (s : State) (g : Gen) : (s.markRefused).divider g = s.divider g := by cases g <;> rfl
@[simp] theorem State.markRefused_timer (s : State) (g : Gen) : (s.markRefused).timer g = s.timer g := by cases g <;> rfl

/-- Everything the refusal of an illegal transaction can say. -/
theorem refuseIllegal_eq (why : Illegal) (s : State) :
    refuseIllegal why s = .illegalTransaction why { s with refused := true } := rfl

/-- A tick that is refused is one whose ELAPSED_US is not positive, on a live block, and it leaves the marked state. -/
theorem acceptTick_refused {e : Q} {s : State} {run : State → State} {r : Refusal}
    (h : acceptTick e s run = .refused r) :
    s.dead = false ∧ positiveElapsed e = false ∧ r = refuseIllegal .nonPositiveElapsed s := by
  unfold acceptTick at h
  split at h
  · cases h
  · rename_i hd
    split at h <;> cases h
    rename_i he
    exact ⟨by simpa using hd, by simpa using he, rfl⟩

/-- No other transaction than a tick is refused once it is taken. -/
theorem accept_ne_refused (s : State) (run : State → Response × State) (r : Refusal) :
    accept s run ≠ .refused r := by
  unfold accept; split <;> simp

/-- The one refusal of `exec`: a tick whose ELAPSED_US is not positive, with the state marked. -/
theorem exec_refused {i : Instr} {s : State} {r : Refusal} (h : exec i s = .refused r) :
    r = refuseIllegal .nonPositiveElapsed s := by
  cases i <;> simp only [exec] at h
  case tickVclk => exact (acceptTick_refused h).2.2
  case tickMclk => exact (acceptTick_refused h).2.2
  case reset => simp [execReset] at h
  all_goals exact absurd h (accept_ne_refused _ _ _)

end Sys2Proof.Machine
end

