-- ==== Sys2Proof/Laws/Aggregate.lean ====
section
/-! SUPPORT. What the aggregate and the gates depend on, and everything `drive` and `recompute` can do. -/

namespace Sys2Proof.Machine

/-- The aggregate reads AGG_BIT, the five pairs, the graphics bits and SW_STATUS, and nothing else (R124). -/
theorem aggregate_congr {s t : State} (hc : s.cfg.aggBits = t.cfg.aggBits) (hp : ∀ S, s.pair S = t.pair S)
    (h0 : s.gr0Pend = t.gr0Pend) (h1 : s.gr1Pend = t.gr1Pend) (hw : s.swStatus = t.swStatus) :
    aggregate s = aggregate t := by
  have hpme := hp .pme
  have hpfifo := hp .pfifo
  have hpvideo := hp .pvideo
  have hptimer := hp .ptimer
  have hpbus := hp .pbus
  simp only [State.pair] at hpme hpfifo hpvideo hptimer hpbus
  have h : ∀ x, pendingWord s x = pendingWord t x := by
    intro x; cases x <;> simp [pendingWord, *]
  have hadd : addPending s = addPending t := by
    funext agg x; simp [addPending, h, hc]
  simp [aggregate, hadd]

@[simp] theorem aggregate_emit (s : State) (c : Call) : aggregate (s.emit c) = aggregate s := rfl
@[simp] theorem aggregate_respond (s : State) (r : Response) : aggregate (s.respond r) = aggregate s := rfl
@[simp] theorem aggregate_refreshAgg (s : State) : aggregate s.refreshAgg = aggregate s := rfl
@[simp] theorem aggregate_drive (s : State) (x : LineAction) : aggregate (s.drive x) = aggregate s := by
  cases x <;> rfl
@[simp] theorem aggregate_afterAnswer (s : State) : aggregate s.afterAnswer = aggregate s := by
  unfold State.afterAnswer; split <;> rfl
@[simp] theorem aggregate_setDivider (s : State) (g : Gen) (d : Divider) :
    aggregate (s.setDivider g d) = aggregate s := by cases g <;> rfl
@[simp] theorem aggregate_setTimer (s : State) (g : Gen) (t : HostTimer) :
    aggregate (s.setTimer g t) = aggregate s := by cases g <;> rfl

/-- The gates read GLOBAL_EN and nothing else. -/
theorem bothGatesClosed_congr {s t : State} (hh : s.globalEnHw = t.globalEnHw) (hs : s.globalEnSw = t.globalEnSw) :
    bothGatesClosed s = bothGatesClosed t := by simp [bothGatesClosed, hh, hs]

theorem gateOpen_congr {s t : State} (hh : s.globalEnHw = t.globalEnHw) (hs : s.globalEnSw = t.globalEnSw) (g : Gate) :
    gateOpen s g = gateOpen t g := by cases g <;> simp [gateOpen, hh, hs]

/-- The value LINE has after an action (R125). -/
def LineAction.level (x : LineAction) (before : Bool) : Bool :=
  match x with
  | .assert => true
  | .deassert => false
  | .hold => before

/-- The call an action makes (R125). -/
def LineAction.calls : LineAction → List Call
  | .assert => [.irqAssert]
  | .deassert => [.irqDeassert]
  | .hold => []

@[simp] theorem State.drive_line (s : State) (x : LineAction) : (s.drive x).line = x.level s.line := by
  cases x <;> rfl
@[simp] theorem State.drive_calls (s : State) (x : LineAction) : (s.drive x).calls = s.calls ++ x.calls := by
  cases x <;> simp [State.drive, LineAction.calls]

/-- Everything `drive` can do: LINE and one call. -/
theorem State.drive_eq (s : State) (x : LineAction) :
    s.drive x = { s with line := x.level s.line, calls := s.calls ++ x.calls } := by
  cases x <;> simp [State.drive, State.emit, LineAction.level, LineAction.calls]

/-- Everything Recompute can do (R124): AGG, LINE and one call. -/
theorem recompute_eq (b : Bool) (s : State) :
    recompute b s =
      { s with
        agg := aggregate s
        line := (recomputeAction b s.refreshAgg).level s.line
        calls := s.calls ++ (recomputeAction b s.refreshAgg).calls } := by
  rw [recompute, State.drive_eq]; rfl

@[simp] theorem recompute_agg (b : Bool) (s : State) : (recompute b s).agg = aggregate s := by
  rw [recompute_eq]
@[simp] theorem recompute_line (b : Bool) (s : State) :
    (recompute b s).line = (recomputeAction b s.refreshAgg).level s.line := by rw [recompute_eq]
@[simp] theorem recompute_calls (b : Bool) (s : State) :
    (recompute b s).calls = s.calls ++ (recomputeAction b s.refreshAgg).calls := by rw [recompute_eq]
@[simp] theorem aggregate_recompute (b : Bool) (s : State) : aggregate (recompute b s) = aggregate s := by
  rw [recompute_eq]; rfl

end Sys2Proof.Machine
end

