-- ==== Sys2Proof/Laws/Decode.lean ====
section
/-! SUPPORT. The fields of a packed record: taking them out of `packT`, putting them back, and masking field by field. -/

namespace Sys2Proof

@[simp] theorem Txn.cmd_packT (c : Byte) (a d : Word) (e : Q) : (Txn.mk (packT c a d) e).cmd = c := by
  unfold Txn.cmd packT; ext i hi; simp [hi, show i < 40 by omega]; omega

@[simp] theorem Txn.addr_packT (c : Byte) (a d : Word) (e : Q) : (Txn.mk (packT c a d) e).addr = a := by
  unfold Txn.addr packT; ext i hi; simp [hi, show 8 + i < 40 by omega, show 8 + i < 72 by omega]

@[simp] theorem Txn.data_packT (c : Byte) (a d : Word) (e : Q) : (Txn.mk (packT c a d) e).data = d := by
  unfold Txn.data packT; ext i hi
  simp [hi, show ¬ (40 + i < 8) by omega, show 40 + i < 72 by omega]
  rw [BitVec.getLsbD_of_ge a _ (by omega), BitVec.getLsbD_of_ge c _ (by omega)]; simp

/-- A record's packed part is its three fields put together. -/
theorem Txn.packed_eq (t : Txn) : t.packed = packT t.cmd t.addr t.data := by
  unfold Txn.cmd Txn.addr Txn.data packT
  ext i hi
  by_cases h8 : i < 8
  · simp [hi, h8, show i < 40 by omega]
  · by_cases h40 : i < 40
    · simp [hi, h8, h40, show i - 8 < 32 by omega, show 8 + (i - 8) = i by omega]
    · simp [hi, h8, h40, show ¬ (i - 8 < 32) by omega, show i - 40 < 32 by omega, show 40 + (i - 40) = i by omega]

/-- Bit `i` of a packed record is a bit of CMD, ADDR or DATA (R60). -/
theorem packT_getLsbD (c : Byte) (a d : Word) {i : Nat} (hi : i < 72) :
    (packT c a d).getLsbD i =
      if i < 8 then c.getLsbD i else if i < 40 then a.getLsbD (i - 8) else d.getLsbD (i - 40) := by
  unfold packT
  simp only [BitVec.getLsbD_or, BitVec.getLsbD_shiftLeft, BitVec.getLsbD_setWidth, hi]
  by_cases h8 : i < 8
  · simp [h8, show i < 40 by omega]
  · rw [BitVec.getLsbD_of_ge c i (by omega)]
    by_cases h40 : i < 40
    · simp [h8, h40, show i - 8 < 72 by omega]
    · rw [BitVec.getLsbD_of_ge a (i - 8) (by omega)]
      simp [h8, h40, show i - 40 < 72 by omega]

/-- Masking a packed record masks its fields. -/
theorem packT_and (c c' : Byte) (a a' d d' : Word) :
    packT c a d &&& packT c' a' d' = packT (c &&& c') (a &&& a') (d &&& d') := by
  apply BitVec.eq_of_getLsbD_eq
  intro i hi
  simp only [BitVec.getLsbD_and, packT_getLsbD _ _ _ hi]
  split_ifs <;> rfl

/-- Two packed records are equal when their fields are. -/
theorem packT_inj {c c' : Byte} {a a' d d' : Word} (h : packT c a d = packT c' a' d') :
    c = c' ∧ a = a' ∧ d = d' := by
  have hc := congrArg (fun p => (Txn.mk p 0).cmd) h
  have ha := congrArg (fun p => (Txn.mk p 0).addr) h
  have hd := congrArg (fun p => (Txn.mk p 0).data) h
  simp only [Txn.cmd_packT, Txn.addr_packT, Txn.data_packT] at hc ha hd
  exact ⟨hc, ha, hd⟩

/-- Zero-extending the low `n` bits of a word is masking it. -/
theorem setWidth_setWidth_eq_and {n : Nat} (w : Word) :
    (w.setWidth n).setWidth 32 = w &&& BitVec.ofNat 32 (2 ^ n - 1) := by
  apply BitVec.eq_of_getLsbD_eq
  intro i hi
  simp only [BitVec.getLsbD_setWidth, BitVec.getLsbD_and, BitVec.getLsbD_ofNat, Nat.testBit_two_pow_sub_one, hi]
  simp [Bool.and_comm]

end Sys2Proof
end

