-- ==== Sys2Proof/Laws/Frames.lean ====
section
/-! SUPPORT. What each shared operation leaves alone, field by field: Recompute, Program, the register rules, the arbiter,
the composer and the shifter. -/

namespace Sys2Proof.Machine

/-! ### Recompute -/

@[simp] theorem recompute_cfg (b : Bool) (s : State) : (recompute b s).cfg = s.cfg := by simp [recompute]
@[simp] theorem recompute_swStatus (b : Bool) (s : State) : (recompute b s).swStatus = s.swStatus := by simp [recompute]
@[simp] theorem recompute_globalEnHw (b : Bool) (s : State) : (recompute b s).globalEnHw = s.globalEnHw := by simp [recompute]
@[simp] theorem recompute_globalEnSw (b : Bool) (s : State) : (recompute b s).globalEnSw = s.globalEnSw := by simp [recompute]
@[simp] theorem recompute_pmcEnable (b : Bool) (s : State) : (recompute b s).pmcEnable = s.pmcEnable := by simp [recompute]
@[simp] theorem recompute_pme (b : Bool) (s : State) : (recompute b s).pme = s.pme := by simp [recompute]
@[simp] theorem recompute_pfifo (b : Bool) (s : State) : (recompute b s).pfifo = s.pfifo := by simp [recompute]
@[simp] theorem recompute_pvideo (b : Bool) (s : State) : (recompute b s).pvideo = s.pvideo := by simp [recompute]
@[simp] theorem recompute_ptimer (b : Bool) (s : State) : (recompute b s).ptimer = s.ptimer := by simp [recompute]
@[simp] theorem recompute_pbus (b : Bool) (s : State) : (recompute b s).pbus = s.pbus := by simp [recompute]
@[simp] theorem recompute_gr0Pend (b : Bool) (s : State) : (recompute b s).gr0Pend = s.gr0Pend := by simp [recompute]
@[simp] theorem recompute_gr1Pend (b : Bool) (s : State) : (recompute b s).gr1Pend = s.gr1Pend := by simp [recompute]
@[simp] theorem recompute_pfbConfig0 (b : Bool) (s : State) : (recompute b s).pfbConfig0 = s.pfbConfig0 := by simp [recompute]
@[simp] theorem recompute_vclkDiv (b : Bool) (s : State) : (recompute b s).vclkDiv = s.vclkDiv := by simp [recompute]
@[simp] theorem recompute_mclkDiv (b : Bool) (s : State) : (recompute b s).mclkDiv = s.mclkDiv := by simp [recompute]
@[simp] theorem recompute_vclkTimer (b : Bool) (s : State) : (recompute b s).vclkTimer = s.vclkTimer := by simp [recompute]
@[simp] theorem recompute_mclkTimer (b : Bool) (s : State) : (recompute b s).mclkTimer = s.mclkTimer := by simp [recompute]
@[simp] theorem recompute_dead (b : Bool) (s : State) : (recompute b s).dead = s.dead := by simp [recompute]
@[simp] theorem recompute_time (b : Bool) (s : State) : (recompute b s).time = s.time := by simp [recompute]
@[simp] theorem recompute_num (b : Bool) (s : State) : (recompute b s).num = s.num := by simp [recompute]
@[simp] theorem recompute_den (b : Bool) (s : State) : (recompute b s).den = s.den := by simp [recompute]
@[simp] theorem recompute_alarm (b : Bool) (s : State) : (recompute b s).alarm = s.alarm := by simp [recompute]
@[simp] theorem recompute_rmaAddr (b : Bool) (s : State) : (recompute b s).rmaAddr = s.rmaAddr := by simp [recompute]
@[simp] theorem recompute_rmaData (b : Bool) (s : State) : (recompute b s).rmaData = s.rmaData := by simp [recompute]
@[simp] theorem recompute_rmaMode (b : Bool) (s : State) : (recompute b s).rmaMode = s.rmaMode := by simp [recompute]
@[simp] theorem recompute_rmaSave (b : Bool) (s : State) : (recompute b s).rmaSave = s.rmaSave := by simp [recompute]
@[simp] theorem recompute_rmaDcount (b : Bool) (s : State) : (recompute b s).rmaDcount = s.rmaDcount := by simp [recompute]
@[simp] theorem recompute_refused (b : Bool) (s : State) : (recompute b s).refused = s.refused := by simp [recompute]
@[simp] theorem recompute_inbox (b : Bool) (s : State) : (recompute b s).inbox = s.inbox := by simp [recompute]
@[simp] theorem recompute_answers (b : Bool) (s : State) : (recompute b s).answers = s.answers := by simp [recompute]
@[simp] theorem recompute_drawCount (b : Bool) (s : State) : (recompute b s).drawCount = s.drawCount := by simp [recompute]
@[simp] theorem recompute_response (b : Bool) (s : State) : (recompute b s).response = s.response := by simp [recompute]
@[simp] theorem recompute_pair (b : Bool) (s : State) (P : PairSource) : (recompute b s).pair P = s.pair P := by cases P <;> simp [State.pair]
@[simp] theorem recompute_divider (b : Bool) (s : State) (d : Gen) : (recompute b s).divider d = s.divider d := by cases d <;> simp [State.divider]
@[simp] theorem recompute_timer (b : Bool) (s : State) (d : Gen) : (recompute b s).timer d = s.timer d := by cases d <;> simp [State.timer]

/-! ### W1C -/

@[simp] theorem w1c_cfg (S : PairSource) (v : Word) (s : State) : (w1c S v s).cfg = s.cfg := by simp [w1c]
@[simp] theorem w1c_swStatus (S : PairSource) (v : Word) (s : State) : (w1c S v s).swStatus = s.swStatus := by simp [w1c]
@[simp] theorem w1c_globalEnHw (S : PairSource) (v : Word) (s : State) : (w1c S v s).globalEnHw = s.globalEnHw := by simp [w1c]
@[simp] theorem w1c_globalEnSw (S : PairSource) (v : Word) (s : State) : (w1c S v s).globalEnSw = s.globalEnSw := by simp [w1c]
@[simp] theorem w1c_pmcEnable (S : PairSource) (v : Word) (s : State) : (w1c S v s).pmcEnable = s.pmcEnable := by simp [w1c]
@[simp] theorem w1c_gr0Pend (S : PairSource) (v : Word) (s : State) : (w1c S v s).gr0Pend = s.gr0Pend := by simp [w1c]
@[simp] theorem w1c_gr1Pend (S : PairSource) (v : Word) (s : State) : (w1c S v s).gr1Pend = s.gr1Pend := by simp [w1c]
@[simp] theorem w1c_pfbConfig0 (S : PairSource) (v : Word) (s : State) : (w1c S v s).pfbConfig0 = s.pfbConfig0 := by simp [w1c]
@[simp] theorem w1c_vclkDiv (S : PairSource) (v : Word) (s : State) : (w1c S v s).vclkDiv = s.vclkDiv := by simp [w1c]
@[simp] theorem w1c_mclkDiv (S : PairSource) (v : Word) (s : State) : (w1c S v s).mclkDiv = s.mclkDiv := by simp [w1c]
@[simp] theorem w1c_vclkTimer (S : PairSource) (v : Word) (s : State) : (w1c S v s).vclkTimer = s.vclkTimer := by simp [w1c]
@[simp] theorem w1c_mclkTimer (S : PairSource) (v : Word) (s : State) : (w1c S v s).mclkTimer = s.mclkTimer := by simp [w1c]
@[simp] theorem w1c_dead (S : PairSource) (v : Word) (s : State) : (w1c S v s).dead = s.dead := by simp [w1c]
@[simp] theorem w1c_time (S : PairSource) (v : Word) (s : State) : (w1c S v s).time = s.time := by simp [w1c]
@[simp] theorem w1c_num (S : PairSource) (v : Word) (s : State) : (w1c S v s).num = s.num := by simp [w1c]
@[simp] theorem w1c_den (S : PairSource) (v : Word) (s : State) : (w1c S v s).den = s.den := by simp [w1c]
@[simp] theorem w1c_alarm (S : PairSource) (v : Word) (s : State) : (w1c S v s).alarm = s.alarm := by simp [w1c]
@[simp] theorem w1c_rmaAddr (S : PairSource) (v : Word) (s : State) : (w1c S v s).rmaAddr = s.rmaAddr := by simp [w1c]
@[simp] theorem w1c_rmaData (S : PairSource) (v : Word) (s : State) : (w1c S v s).rmaData = s.rmaData := by simp [w1c]
@[simp] theorem w1c_rmaMode (S : PairSource) (v : Word) (s : State) : (w1c S v s).rmaMode = s.rmaMode := by simp [w1c]
@[simp] theorem w1c_rmaSave (S : PairSource) (v : Word) (s : State) : (w1c S v s).rmaSave = s.rmaSave := by simp [w1c]
@[simp] theorem w1c_rmaDcount (S : PairSource) (v : Word) (s : State) : (w1c S v s).rmaDcount = s.rmaDcount := by simp [w1c]
@[simp] theorem w1c_refused (S : PairSource) (v : Word) (s : State) : (w1c S v s).refused = s.refused := by simp [w1c]
@[simp] theorem w1c_inbox (S : PairSource) (v : Word) (s : State) : (w1c S v s).inbox = s.inbox := by simp [w1c]
@[simp] theorem w1c_answers (S : PairSource) (v : Word) (s : State) : (w1c S v s).answers = s.answers := by simp [w1c]
@[simp] theorem w1c_drawCount (S : PairSource) (v : Word) (s : State) : (w1c S v s).drawCount = s.drawCount := by simp [w1c]
@[simp] theorem w1c_response (S : PairSource) (v : Word) (s : State) : (w1c S v s).response = s.response := by simp [w1c]
@[simp] theorem w1c_divider (S : PairSource) (v : Word) (s : State) (d : Gen) : (w1c S v s).divider d = s.divider d := by cases d <;> simp [State.divider]
@[simp] theorem w1c_timer (S : PairSource) (v : Word) (s : State) (d : Gen) : (w1c S v s).timer d = s.timer d := by cases d <;> simp [State.timer]

/-! ### Raising status bits -/

@[simp] theorem raiseStatus_cfg (S : PairSource) (m : Word) (s : State) : (raiseStatus S m s).cfg = s.cfg := by simp [raiseStatus]
@[simp] theorem raiseStatus_swStatus (S : PairSource) (m : Word) (s : State) : (raiseStatus S m s).swStatus = s.swStatus := by simp [raiseStatus]
@[simp] theorem raiseStatus_globalEnHw (S : PairSource) (m : Word) (s : State) : (raiseStatus S m s).globalEnHw = s.globalEnHw := by simp [raiseStatus]
@[simp] theorem raiseStatus_globalEnSw (S : PairSource) (m : Word) (s : State) : (raiseStatus S m s).globalEnSw = s.globalEnSw := by simp [raiseStatus]
@[simp] theorem raiseStatus_pmcEnable (S : PairSource) (m : Word) (s : State) : (raiseStatus S m s).pmcEnable = s.pmcEnable := by simp [raiseStatus]
@[simp] theorem raiseStatus_gr0Pend (S : PairSource) (m : Word) (s : State) : (raiseStatus S m s).gr0Pend = s.gr0Pend := by simp [raiseStatus]
@[simp] theorem raiseStatus_gr1Pend (S : PairSource) (m : Word) (s : State) : (raiseStatus S m s).gr1Pend = s.gr1Pend := by simp [raiseStatus]
@[simp] theorem raiseStatus_pfbConfig0 (S : PairSource) (m : Word) (s : State) : (raiseStatus S m s).pfbConfig0 = s.pfbConfig0 := by simp [raiseStatus]
@[simp] theorem raiseStatus_vclkDiv (S : PairSource) (m : Word) (s : State) : (raiseStatus S m s).vclkDiv = s.vclkDiv := by simp [raiseStatus]
@[simp] theorem raiseStatus_mclkDiv (S : PairSource) (m : Word) (s : State) : (raiseStatus S m s).mclkDiv = s.mclkDiv := by simp [raiseStatus]
@[simp] theorem raiseStatus_vclkTimer (S : PairSource) (m : Word) (s : State) : (raiseStatus S m s).vclkTimer = s.vclkTimer := by simp [raiseStatus]
@[simp] theorem raiseStatus_mclkTimer (S : PairSource) (m : Word) (s : State) : (raiseStatus S m s).mclkTimer = s.mclkTimer := by simp [raiseStatus]
@[simp] theorem raiseStatus_dead (S : PairSource) (m : Word) (s : State) : (raiseStatus S m s).dead = s.dead := by simp [raiseStatus]
@[simp] theorem raiseStatus_time (S : PairSource) (m : Word) (s : State) : (raiseStatus S m s).time = s.time := by simp [raiseStatus]
@[simp] theorem raiseStatus_num (S : PairSource) (m : Word) (s : State) : (raiseStatus S m s).num = s.num := by simp [raiseStatus]
@[simp] theorem raiseStatus_den (S : PairSource) (m : Word) (s : State) : (raiseStatus S m s).den = s.den := by simp [raiseStatus]
@[simp] theorem raiseStatus_alarm (S : PairSource) (m : Word) (s : State) : (raiseStatus S m s).alarm = s.alarm := by simp [raiseStatus]
@[simp] theorem raiseStatus_rmaAddr (S : PairSource) (m : Word) (s : State) : (raiseStatus S m s).rmaAddr = s.rmaAddr := by simp [raiseStatus]
@[simp] theorem raiseStatus_rmaData (S : PairSource) (m : Word) (s : State) : (raiseStatus S m s).rmaData = s.rmaData := by simp [raiseStatus]
@[simp] theorem raiseStatus_rmaMode (S : PairSource) (m : Word) (s : State) : (raiseStatus S m s).rmaMode = s.rmaMode := by simp [raiseStatus]
@[simp] theorem raiseStatus_rmaSave (S : PairSource) (m : Word) (s : State) : (raiseStatus S m s).rmaSave = s.rmaSave := by simp [raiseStatus]
@[simp] theorem raiseStatus_rmaDcount (S : PairSource) (m : Word) (s : State) : (raiseStatus S m s).rmaDcount = s.rmaDcount := by simp [raiseStatus]
@[simp] theorem raiseStatus_refused (S : PairSource) (m : Word) (s : State) : (raiseStatus S m s).refused = s.refused := by simp [raiseStatus]
@[simp] theorem raiseStatus_inbox (S : PairSource) (m : Word) (s : State) : (raiseStatus S m s).inbox = s.inbox := by simp [raiseStatus]
@[simp] theorem raiseStatus_answers (S : PairSource) (m : Word) (s : State) : (raiseStatus S m s).answers = s.answers := by simp [raiseStatus]
@[simp] theorem raiseStatus_drawCount (S : PairSource) (m : Word) (s : State) : (raiseStatus S m s).drawCount = s.drawCount := by simp [raiseStatus]
@[simp] theorem raiseStatus_response (S : PairSource) (m : Word) (s : State) : (raiseStatus S m s).response = s.response := by simp [raiseStatus]
@[simp] theorem raiseStatus_divider (S : PairSource) (m : Word) (s : State) (d : Gen) : (raiseStatus S m s).divider d = s.divider d := by cases d <;> simp [State.divider]
@[simp] theorem raiseStatus_timer (S : PairSource) (m : Word) (s : State) (d : Gen) : (raiseStatus S m s).timer d = s.timer d := by cases d <;> simp [State.timer]

/-! ### Program(g) -/

@[simp] theorem programTimer_cfg (g : Gen) (s : State) : (programTimer g s).cfg = s.cfg := by unfold programTimer; dsimp only; split <;> simp
@[simp] theorem programTimer_agg (g : Gen) (s : State) : (programTimer g s).agg = s.agg := by unfold programTimer; dsimp only; split <;> simp
@[simp] theorem programTimer_swStatus (g : Gen) (s : State) : (programTimer g s).swStatus = s.swStatus := by unfold programTimer; dsimp only; split <;> simp
@[simp] theorem programTimer_globalEnHw (g : Gen) (s : State) : (programTimer g s).globalEnHw = s.globalEnHw := by unfold programTimer; dsimp only; split <;> simp
@[simp] theorem programTimer_globalEnSw (g : Gen) (s : State) : (programTimer g s).globalEnSw = s.globalEnSw := by unfold programTimer; dsimp only; split <;> simp
@[simp] theorem programTimer_pmcEnable (g : Gen) (s : State) : (programTimer g s).pmcEnable = s.pmcEnable := by unfold programTimer; dsimp only; split <;> simp
@[simp] theorem programTimer_pme (g : Gen) (s : State) : (programTimer g s).pme = s.pme := by unfold programTimer; dsimp only; split <;> simp
@[simp] theorem programTimer_pfifo (g : Gen) (s : State) : (programTimer g s).pfifo = s.pfifo := by unfold programTimer; dsimp only; split <;> simp
@[simp] theorem programTimer_pvideo (g : Gen) (s : State) : (programTimer g s).pvideo = s.pvideo := by unfold programTimer; dsimp only; split <;> simp
@[simp] theorem programTimer_ptimer (g : Gen) (s : State) : (programTimer g s).ptimer = s.ptimer := by unfold programTimer; dsimp only; split <;> simp
@[simp] theorem programTimer_pbus (g : Gen) (s : State) : (programTimer g s).pbus = s.pbus := by unfold programTimer; dsimp only; split <;> simp
@[simp] theorem programTimer_gr0Pend (g : Gen) (s : State) : (programTimer g s).gr0Pend = s.gr0Pend := by unfold programTimer; dsimp only; split <;> simp
@[simp] theorem programTimer_gr1Pend (g : Gen) (s : State) : (programTimer g s).gr1Pend = s.gr1Pend := by unfold programTimer; dsimp only; split <;> simp
@[simp] theorem programTimer_pfbConfig0 (g : Gen) (s : State) : (programTimer g s).pfbConfig0 = s.pfbConfig0 := by unfold programTimer; dsimp only; split <;> simp
@[simp] theorem programTimer_vclkDiv (g : Gen) (s : State) : (programTimer g s).vclkDiv = s.vclkDiv := by unfold programTimer; dsimp only; split <;> simp
@[simp] theorem programTimer_mclkDiv (g : Gen) (s : State) : (programTimer g s).mclkDiv = s.mclkDiv := by unfold programTimer; dsimp only; split <;> simp
@[simp] theorem programTimer_dead (g : Gen) (s : State) : (programTimer g s).dead = s.dead := by unfold programTimer; dsimp only; split <;> simp
@[simp] theorem programTimer_time (g : Gen) (s : State) : (programTimer g s).time = s.time := by unfold programTimer; dsimp only; split <;> simp
@[simp] theorem programTimer_num (g : Gen) (s : State) : (programTimer g s).num = s.num := by unfold programTimer; dsimp only; split <;> simp
@[simp] theorem programTimer_den (g : Gen) (s : State) : (programTimer g s).den = s.den := by unfold programTimer; dsimp only; split <;> simp
@[simp] theorem programTimer_alarm (g : Gen) (s : State) : (programTimer g s).alarm = s.alarm := by unfold programTimer; dsimp only; split <;> simp
@[simp] theorem programTimer_line (g : Gen) (s : State) : (programTimer g s).line = s.line := by unfold programTimer; dsimp only; split <;> simp
@[simp] theorem programTimer_rmaAddr (g : Gen) (s : State) : (programTimer g s).rmaAddr = s.rmaAddr := by unfold programTimer; dsimp only; split <;> simp
@[simp] theorem programTimer_rmaData (g : Gen) (s : State) : (programTimer g s).rmaData = s.rmaData := by unfold programTimer; dsimp only; split <;> simp
@[simp] theorem programTimer_rmaMode (g : Gen) (s : State) : (programTimer g s).rmaMode = s.rmaMode := by unfold programTimer; dsimp only; split <;> simp
@[simp] theorem programTimer_rmaSave (g : Gen) (s : State) : (programTimer g s).rmaSave = s.rmaSave := by unfold programTimer; dsimp only; split <;> simp
@[simp] theorem programTimer_rmaDcount (g : Gen) (s : State) : (programTimer g s).rmaDcount = s.rmaDcount := by unfold programTimer; dsimp only; split <;> simp
@[simp] theorem programTimer_refused (g : Gen) (s : State) : (programTimer g s).refused = s.refused := by unfold programTimer; dsimp only; split <;> simp
@[simp] theorem programTimer_inbox (g : Gen) (s : State) : (programTimer g s).inbox = s.inbox := by unfold programTimer; dsimp only; split <;> simp
@[simp] theorem programTimer_answers (g : Gen) (s : State) : (programTimer g s).answers = s.answers := by unfold programTimer; dsimp only; split <;> simp
@[simp] theorem programTimer_drawCount (g : Gen) (s : State) : (programTimer g s).drawCount = s.drawCount := by unfold programTimer; dsimp only; split <;> simp
@[simp] theorem programTimer_response (g : Gen) (s : State) : (programTimer g s).response = s.response := by unfold programTimer; dsimp only; split <;> simp
@[simp] theorem programTimer_pair (g : Gen) (s : State) (P : PairSource) : (programTimer g s).pair P = s.pair P := by cases P <;> simp [State.pair]
@[simp] theorem programTimer_divider (g : Gen) (s : State) (d : Gen) : (programTimer g s).divider d = s.divider d := by cases d <;> simp [State.divider]

/-! ### The call TimerDestroy(g) -/

@[simp] theorem callDestroy_cfg (g : Gen) (s : State) : (callDestroy g s).cfg = s.cfg := by unfold callDestroy; split <;> simp
@[simp] theorem callDestroy_agg (g : Gen) (s : State) : (callDestroy g s).agg = s.agg := by unfold callDestroy; split <;> simp
@[simp] theorem callDestroy_swStatus (g : Gen) (s : State) : (callDestroy g s).swStatus = s.swStatus := by unfold callDestroy; split <;> simp
@[simp] theorem callDestroy_globalEnHw (g : Gen) (s : State) : (callDestroy g s).globalEnHw = s.globalEnHw := by unfold callDestroy; split <;> simp
@[simp] theorem callDestroy_globalEnSw (g : Gen) (s : State) : (callDestroy g s).globalEnSw = s.globalEnSw := by unfold callDestroy; split <;> simp
@[simp] theorem callDestroy_pmcEnable (g : Gen) (s : State) : (callDestroy g s).pmcEnable = s.pmcEnable := by unfold callDestroy; split <;> simp
@[simp] theorem callDestroy_pme (g : Gen) (s : State) : (callDestroy g s).pme = s.pme := by unfold callDestroy; split <;> simp
@[simp] theorem callDestroy_pfifo (g : Gen) (s : State) : (callDestroy g s).pfifo = s.pfifo := by unfold callDestroy; split <;> simp
@[simp] theorem callDestroy_pvideo (g : Gen) (s : State) : (callDestroy g s).pvideo = s.pvideo := by unfold callDestroy; split <;> simp
@[simp] theorem callDestroy_ptimer (g : Gen) (s : State) : (callDestroy g s).ptimer = s.ptimer := by unfold callDestroy; split <;> simp
@[simp] theorem callDestroy_pbus (g : Gen) (s : State) : (callDestroy g s).pbus = s.pbus := by unfold callDestroy; split <;> simp
@[simp] theorem callDestroy_gr0Pend (g : Gen) (s : State) : (callDestroy g s).gr0Pend = s.gr0Pend := by unfold callDestroy; split <;> simp
@[simp] theorem callDestroy_gr1Pend (g : Gen) (s : State) : (callDestroy g s).gr1Pend = s.gr1Pend := by unfold callDestroy; split <;> simp
@[simp] theorem callDestroy_pfbConfig0 (g : Gen) (s : State) : (callDestroy g s).pfbConfig0 = s.pfbConfig0 := by unfold callDestroy; split <;> simp
@[simp] theorem callDestroy_vclkDiv (g : Gen) (s : State) : (callDestroy g s).vclkDiv = s.vclkDiv := by unfold callDestroy; split <;> simp
@[simp] theorem callDestroy_mclkDiv (g : Gen) (s : State) : (callDestroy g s).mclkDiv = s.mclkDiv := by unfold callDestroy; split <;> simp
@[simp] theorem callDestroy_vclkTimer (g : Gen) (s : State) : (callDestroy g s).vclkTimer = s.vclkTimer := by unfold callDestroy; split <;> simp
@[simp] theorem callDestroy_mclkTimer (g : Gen) (s : State) : (callDestroy g s).mclkTimer = s.mclkTimer := by unfold callDestroy; split <;> simp
@[simp] theorem callDestroy_dead (g : Gen) (s : State) : (callDestroy g s).dead = s.dead := by unfold callDestroy; split <;> simp
@[simp] theorem callDestroy_time (g : Gen) (s : State) : (callDestroy g s).time = s.time := by unfold callDestroy; split <;> simp
@[simp] theorem callDestroy_num (g : Gen) (s : State) : (callDestroy g s).num = s.num := by unfold callDestroy; split <;> simp
@[simp] theorem callDestroy_den (g : Gen) (s : State) : (callDestroy g s).den = s.den := by unfold callDestroy; split <;> simp
@[simp] theorem callDestroy_alarm (g : Gen) (s : State) : (callDestroy g s).alarm = s.alarm := by unfold callDestroy; split <;> simp
@[simp] theorem callDestroy_line (g : Gen) (s : State) : (callDestroy g s).line = s.line := by unfold callDestroy; split <;> simp
@[simp] theorem callDestroy_rmaAddr (g : Gen) (s : State) : (callDestroy g s).rmaAddr = s.rmaAddr := by unfold callDestroy; split <;> simp
@[simp] theorem callDestroy_rmaData (g : Gen) (s : State) : (callDestroy g s).rmaData = s.rmaData := by unfold callDestroy; split <;> simp
@[simp] theorem callDestroy_rmaMode (g : Gen) (s : State) : (callDestroy g s).rmaMode = s.rmaMode := by unfold callDestroy; split <;> simp
@[simp] theorem callDestroy_rmaSave (g : Gen) (s : State) : (callDestroy g s).rmaSave = s.rmaSave := by unfold callDestroy; split <;> simp
@[simp] theorem callDestroy_rmaDcount (g : Gen) (s : State) : (callDestroy g s).rmaDcount = s.rmaDcount := by unfold callDestroy; split <;> simp
@[simp] theorem callDestroy_refused (g : Gen) (s : State) : (callDestroy g s).refused = s.refused := by unfold callDestroy; split <;> simp
@[simp] theorem callDestroy_inbox (g : Gen) (s : State) : (callDestroy g s).inbox = s.inbox := by unfold callDestroy; split <;> simp
@[simp] theorem callDestroy_answers (g : Gen) (s : State) : (callDestroy g s).answers = s.answers := by unfold callDestroy; split <;> simp
@[simp] theorem callDestroy_drawCount (g : Gen) (s : State) : (callDestroy g s).drawCount = s.drawCount := by unfold callDestroy; split <;> simp
@[simp] theorem callDestroy_response (g : Gen) (s : State) : (callDestroy g s).response = s.response := by unfold callDestroy; split <;> simp
@[simp] theorem callDestroy_pair (g : Gen) (s : State) (P : PairSource) : (callDestroy g s).pair P = s.pair P := by cases P <;> simp [State.pair]
@[simp] theorem callDestroy_divider (g : Gen) (s : State) (d : Gen) : (callDestroy g s).divider d = s.divider d := by cases d <;> simp [State.divider]
@[simp] theorem callDestroy_timer (g : Gen) (s : State) (d : Gen) : (callDestroy g s).timer d = s.timer d := by cases d <;> simp [State.timer]

/-! ### Destroying a timer -/

@[simp] theorem destroyTimer_cfg (g : Gen) (s : State) : (destroyTimer g s).cfg = s.cfg := by unfold destroyTimer; split <;> simp
@[simp] theorem destroyTimer_agg (g : Gen) (s : State) : (destroyTimer g s).agg = s.agg := by unfold destroyTimer; split <;> simp
@[simp] theorem destroyTimer_swStatus (g : Gen) (s : State) : (destroyTimer g s).swStatus = s.swStatus := by unfold destroyTimer; split <;> simp
@[simp] theorem destroyTimer_globalEnHw (g : Gen) (s : State) : (destroyTimer g s).globalEnHw = s.globalEnHw := by unfold destroyTimer; split <;> simp
@[simp] theorem destroyTimer_globalEnSw (g : Gen) (s : State) : (destroyTimer g s).globalEnSw = s.globalEnSw := by unfold destroyTimer; split <;> simp
@[simp] theorem destroyTimer_pmcEnable (g : Gen) (s : State) : (destroyTimer g s).pmcEnable = s.pmcEnable := by unfold destroyTimer; split <;> simp
@[simp] theorem destroyTimer_pme (g : Gen) (s : State) : (destroyTimer g s).pme = s.pme := by unfold destroyTimer; split <;> simp
@[simp] theorem destroyTimer_pfifo (g : Gen) (s : State) : (destroyTimer g s).pfifo = s.pfifo := by unfold destroyTimer; split <;> simp
@[simp] theorem destroyTimer_pvideo (g : Gen) (s : State) : (destroyTimer g s).pvideo = s.pvideo := by unfold destroyTimer; split <;> simp
@[simp] theorem destroyTimer_ptimer (g : Gen) (s : State) : (destroyTimer g s).ptimer = s.ptimer := by unfold destroyTimer; split <;> simp
@[simp] theorem destroyTimer_pbus (g : Gen) (s : State) : (destroyTimer g s).pbus = s.pbus := by unfold destroyTimer; split <;> simp
@[simp] theorem destroyTimer_gr0Pend (g : Gen) (s : State) : (destroyTimer g s).gr0Pend = s.gr0Pend := by unfold destroyTimer; split <;> simp
@[simp] theorem destroyTimer_gr1Pend (g : Gen) (s : State) : (destroyTimer g s).gr1Pend = s.gr1Pend := by unfold destroyTimer; split <;> simp
@[simp] theorem destroyTimer_pfbConfig0 (g : Gen) (s : State) : (destroyTimer g s).pfbConfig0 = s.pfbConfig0 := by unfold destroyTimer; split <;> simp
@[simp] theorem destroyTimer_vclkDiv (g : Gen) (s : State) : (destroyTimer g s).vclkDiv = s.vclkDiv := by unfold destroyTimer; split <;> simp
@[simp] theorem destroyTimer_mclkDiv (g : Gen) (s : State) : (destroyTimer g s).mclkDiv = s.mclkDiv := by unfold destroyTimer; split <;> simp
@[simp] theorem destroyTimer_dead (g : Gen) (s : State) : (destroyTimer g s).dead = s.dead := by unfold destroyTimer; split <;> simp
@[simp] theorem destroyTimer_time (g : Gen) (s : State) : (destroyTimer g s).time = s.time := by unfold destroyTimer; split <;> simp
@[simp] theorem destroyTimer_num (g : Gen) (s : State) : (destroyTimer g s).num = s.num := by unfold destroyTimer; split <;> simp
@[simp] theorem destroyTimer_den (g : Gen) (s : State) : (destroyTimer g s).den = s.den := by unfold destroyTimer; split <;> simp
@[simp] theorem destroyTimer_alarm (g : Gen) (s : State) : (destroyTimer g s).alarm = s.alarm := by unfold destroyTimer; split <;> simp
@[simp] theorem destroyTimer_line (g : Gen) (s : State) : (destroyTimer g s).line = s.line := by unfold destroyTimer; split <;> simp
@[simp] theorem destroyTimer_rmaAddr (g : Gen) (s : State) : (destroyTimer g s).rmaAddr = s.rmaAddr := by unfold destroyTimer; split <;> simp
@[simp] theorem destroyTimer_rmaData (g : Gen) (s : State) : (destroyTimer g s).rmaData = s.rmaData := by unfold destroyTimer; split <;> simp
@[simp] theorem destroyTimer_rmaMode (g : Gen) (s : State) : (destroyTimer g s).rmaMode = s.rmaMode := by unfold destroyTimer; split <;> simp
@[simp] theorem destroyTimer_rmaSave (g : Gen) (s : State) : (destroyTimer g s).rmaSave = s.rmaSave := by unfold destroyTimer; split <;> simp
@[simp] theorem destroyTimer_rmaDcount (g : Gen) (s : State) : (destroyTimer g s).rmaDcount = s.rmaDcount := by unfold destroyTimer; split <;> simp
@[simp] theorem destroyTimer_refused (g : Gen) (s : State) : (destroyTimer g s).refused = s.refused := by unfold destroyTimer; split <;> simp
@[simp] theorem destroyTimer_inbox (g : Gen) (s : State) : (destroyTimer g s).inbox = s.inbox := by unfold destroyTimer; split <;> simp
@[simp] theorem destroyTimer_answers (g : Gen) (s : State) : (destroyTimer g s).answers = s.answers := by unfold destroyTimer; split <;> simp
@[simp] theorem destroyTimer_drawCount (g : Gen) (s : State) : (destroyTimer g s).drawCount = s.drawCount := by unfold destroyTimer; split <;> simp
@[simp] theorem destroyTimer_response (g : Gen) (s : State) : (destroyTimer g s).response = s.response := by unfold destroyTimer; split <;> simp
@[simp] theorem destroyTimer_pair (g : Gen) (s : State) (P : PairSource) : (destroyTimer g s).pair P = s.pair P := by cases P <;> simp [State.pair]
@[simp] theorem destroyTimer_divider (g : Gen) (s : State) (d : Gen) : (destroyTimer g s).divider d = s.divider d := by cases d <;> simp [State.divider]

/-! ### A read call -/

@[simp] theorem State.ask_cfg (s : State) (c : Call) : ((s.ask c).2).cfg = s.cfg := by simp [State.ask]
@[simp] theorem State.ask_agg (s : State) (c : Call) : ((s.ask c).2).agg = s.agg := by simp [State.ask]
@[simp] theorem State.ask_swStatus (s : State) (c : Call) : ((s.ask c).2).swStatus = s.swStatus := by simp [State.ask]
@[simp] theorem State.ask_globalEnHw (s : State) (c : Call) : ((s.ask c).2).globalEnHw = s.globalEnHw := by simp [State.ask]
@[simp] theorem State.ask_globalEnSw (s : State) (c : Call) : ((s.ask c).2).globalEnSw = s.globalEnSw := by simp [State.ask]
@[simp] theorem State.ask_pmcEnable (s : State) (c : Call) : ((s.ask c).2).pmcEnable = s.pmcEnable := by simp [State.ask]
@[simp] theorem State.ask_pme (s : State) (c : Call) : ((s.ask c).2).pme = s.pme := by simp [State.ask]
@[simp] theorem State.ask_pfifo (s : State) (c : Call) : ((s.ask c).2).pfifo = s.pfifo := by simp [State.ask]
@[simp] theorem State.ask_pvideo (s : State) (c : Call) : ((s.ask c).2).pvideo = s.pvideo := by simp [State.ask]
@[simp] theorem State.ask_ptimer (s : State) (c : Call) : ((s.ask c).2).ptimer = s.ptimer := by simp [State.ask]
@[simp] theorem State.ask_pbus (s : State) (c : Call) : ((s.ask c).2).pbus = s.pbus := by simp [State.ask]
@[simp] theorem State.ask_gr0Pend (s : State) (c : Call) : ((s.ask c).2).gr0Pend = s.gr0Pend := by simp [State.ask]
@[simp] theorem State.ask_gr1Pend (s : State) (c : Call) : ((s.ask c).2).gr1Pend = s.gr1Pend := by simp [State.ask]
@[simp] theorem State.ask_pfbConfig0 (s : State) (c : Call) : ((s.ask c).2).pfbConfig0 = s.pfbConfig0 := by simp [State.ask]
@[simp] theorem State.ask_vclkDiv (s : State) (c : Call) : ((s.ask c).2).vclkDiv = s.vclkDiv := by simp [State.ask]
@[simp] theorem State.ask_mclkDiv (s : State) (c : Call) : ((s.ask c).2).mclkDiv = s.mclkDiv := by simp [State.ask]
@[simp] theorem State.ask_vclkTimer (s : State) (c : Call) : ((s.ask c).2).vclkTimer = s.vclkTimer := by simp [State.ask]
@[simp] theorem State.ask_mclkTimer (s : State) (c : Call) : ((s.ask c).2).mclkTimer = s.mclkTimer := by simp [State.ask]
@[simp] theorem State.ask_dead (s : State) (c : Call) : ((s.ask c).2).dead = s.dead := by simp [State.ask]
@[simp] theorem State.ask_time (s : State) (c : Call) : ((s.ask c).2).time = s.time := by simp [State.ask]
@[simp] theorem State.ask_num (s : State) (c : Call) : ((s.ask c).2).num = s.num := by simp [State.ask]
@[simp] theorem State.ask_den (s : State) (c : Call) : ((s.ask c).2).den = s.den := by simp [State.ask]
@[simp] theorem State.ask_alarm (s : State) (c : Call) : ((s.ask c).2).alarm = s.alarm := by simp [State.ask]
@[simp] theorem State.ask_line (s : State) (c : Call) : ((s.ask c).2).line = s.line := by simp [State.ask]
@[simp] theorem State.ask_rmaAddr (s : State) (c : Call) : ((s.ask c).2).rmaAddr = s.rmaAddr := by simp [State.ask]
@[simp] theorem State.ask_rmaData (s : State) (c : Call) : ((s.ask c).2).rmaData = s.rmaData := by simp [State.ask]
@[simp] theorem State.ask_rmaMode (s : State) (c : Call) : ((s.ask c).2).rmaMode = s.rmaMode := by simp [State.ask]
@[simp] theorem State.ask_rmaSave (s : State) (c : Call) : ((s.ask c).2).rmaSave = s.rmaSave := by simp [State.ask]
@[simp] theorem State.ask_rmaDcount (s : State) (c : Call) : ((s.ask c).2).rmaDcount = s.rmaDcount := by simp [State.ask]
@[simp] theorem State.ask_refused (s : State) (c : Call) : ((s.ask c).2).refused = s.refused := by simp [State.ask]
@[simp] theorem State.ask_inbox (s : State) (c : Call) : ((s.ask c).2).inbox = s.inbox := by simp [State.ask]
@[simp] theorem State.ask_response (s : State) (c : Call) : ((s.ask c).2).response = s.response := by simp [State.ask]
@[simp] theorem State.ask_pair (s : State) (c : Call) (P : PairSource) : ((s.ask c).2).pair P = s.pair P := by cases P <;> simp [State.pair]
@[simp] theorem State.ask_divider (s : State) (c : Call) (d : Gen) : ((s.ask c).2).divider d = s.divider d := by cases d <;> simp [State.divider]
@[simp] theorem State.ask_timer (s : State) (c : Call) (d : Gen) : ((s.ask c).2).timer d = s.timer d := by cases d <;> simp [State.timer]

/-! ### The read rules -/

@[simp] theorem readReg_cfg (r : Reg) (s : State) : ((readReg r s).2).cfg = s.cfg := by cases r <;> simp [readReg]
@[simp] theorem readReg_swStatus (r : Reg) (s : State) : ((readReg r s).2).swStatus = s.swStatus := by cases r <;> simp [readReg]
@[simp] theorem readReg_globalEnHw (r : Reg) (s : State) : ((readReg r s).2).globalEnHw = s.globalEnHw := by cases r <;> simp [readReg]
@[simp] theorem readReg_globalEnSw (r : Reg) (s : State) : ((readReg r s).2).globalEnSw = s.globalEnSw := by cases r <;> simp [readReg]
@[simp] theorem readReg_pmcEnable (r : Reg) (s : State) : ((readReg r s).2).pmcEnable = s.pmcEnable := by cases r <;> simp [readReg]
@[simp] theorem readReg_pme (r : Reg) (s : State) : ((readReg r s).2).pme = s.pme := by cases r <;> simp [readReg]
@[simp] theorem readReg_pfifo (r : Reg) (s : State) : ((readReg r s).2).pfifo = s.pfifo := by cases r <;> simp [readReg]
@[simp] theorem readReg_pvideo (r : Reg) (s : State) : ((readReg r s).2).pvideo = s.pvideo := by cases r <;> simp [readReg]
@[simp] theorem readReg_ptimer (r : Reg) (s : State) : ((readReg r s).2).ptimer = s.ptimer := by cases r <;> simp [readReg]
@[simp] theorem readReg_pbus (r : Reg) (s : State) : ((readReg r s).2).pbus = s.pbus := by cases r <;> simp [readReg]
@[simp] theorem readReg_gr0Pend (r : Reg) (s : State) : ((readReg r s).2).gr0Pend = s.gr0Pend := by cases r <;> simp [readReg]
@[simp] theorem readReg_gr1Pend (r : Reg) (s : State) : ((readReg r s).2).gr1Pend = s.gr1Pend := by cases r <;> simp [readReg]
@[simp] theorem readReg_pfbConfig0 (r : Reg) (s : State) : ((readReg r s).2).pfbConfig0 = s.pfbConfig0 := by cases r <;> simp [readReg]
@[simp] theorem readReg_vclkDiv (r : Reg) (s : State) : ((readReg r s).2).vclkDiv = s.vclkDiv := by cases r <;> simp [readReg]
@[simp] theorem readReg_mclkDiv (r : Reg) (s : State) : ((readReg r s).2).mclkDiv = s.mclkDiv := by cases r <;> simp [readReg]
@[simp] theorem readReg_vclkTimer (r : Reg) (s : State) : ((readReg r s).2).vclkTimer = s.vclkTimer := by cases r <;> simp [readReg]
@[simp] theorem readReg_mclkTimer (r : Reg) (s : State) : ((readReg r s).2).mclkTimer = s.mclkTimer := by cases r <;> simp [readReg]
@[simp] theorem readReg_dead (r : Reg) (s : State) : ((readReg r s).2).dead = s.dead := by cases r <;> simp [readReg]
@[simp] theorem readReg_time (r : Reg) (s : State) : ((readReg r s).2).time = s.time := by cases r <;> simp [readReg]
@[simp] theorem readReg_num (r : Reg) (s : State) : ((readReg r s).2).num = s.num := by cases r <;> simp [readReg]
@[simp] theorem readReg_den (r : Reg) (s : State) : ((readReg r s).2).den = s.den := by cases r <;> simp [readReg]
@[simp] theorem readReg_alarm (r : Reg) (s : State) : ((readReg r s).2).alarm = s.alarm := by cases r <;> simp [readReg]
@[simp] theorem readReg_rmaAddr (r : Reg) (s : State) : ((readReg r s).2).rmaAddr = s.rmaAddr := by cases r <;> simp [readReg]
@[simp] theorem readReg_rmaData (r : Reg) (s : State) : ((readReg r s).2).rmaData = s.rmaData := by cases r <;> simp [readReg]
@[simp] theorem readReg_rmaMode (r : Reg) (s : State) : ((readReg r s).2).rmaMode = s.rmaMode := by cases r <;> simp [readReg]
@[simp] theorem readReg_rmaSave (r : Reg) (s : State) : ((readReg r s).2).rmaSave = s.rmaSave := by cases r <;> simp [readReg]
@[simp] theorem readReg_rmaDcount (r : Reg) (s : State) : ((readReg r s).2).rmaDcount = s.rmaDcount := by cases r <;> simp [readReg]
@[simp] theorem readReg_refused (r : Reg) (s : State) : ((readReg r s).2).refused = s.refused := by cases r <;> simp [readReg]
@[simp] theorem readReg_inbox (r : Reg) (s : State) : ((readReg r s).2).inbox = s.inbox := by cases r <;> simp [readReg]
@[simp] theorem readReg_answers (r : Reg) (s : State) : ((readReg r s).2).answers = s.answers := by cases r <;> simp [readReg]
@[simp] theorem readReg_drawCount (r : Reg) (s : State) : ((readReg r s).2).drawCount = s.drawCount := by cases r <;> simp [readReg]
@[simp] theorem readReg_response (r : Reg) (s : State) : ((readReg r s).2).response = s.response := by cases r <;> simp [readReg]
@[simp] theorem readReg_pair (r : Reg) (s : State) (P : PairSource) : ((readReg r s).2).pair P = s.pair P := by cases P <;> simp [State.pair]
@[simp] theorem readReg_divider (r : Reg) (s : State) (d : Gen) : ((readReg r s).2).divider d = s.divider d := by cases d <;> simp [State.divider]
@[simp] theorem readReg_timer (r : Reg) (s : State) (d : Gen) : ((readReg r s).2).timer d = s.timer d := by cases d <;> simp [State.timer]

/-! ### Read32 -/

@[simp] theorem read32_cfg (a : Addr) (s : State) : ((read32 a s).2).cfg = s.cfg := by unfold read32; split <;> simp
@[simp] theorem read32_swStatus (a : Addr) (s : State) : ((read32 a s).2).swStatus = s.swStatus := by unfold read32; split <;> simp
@[simp] theorem read32_globalEnHw (a : Addr) (s : State) : ((read32 a s).2).globalEnHw = s.globalEnHw := by unfold read32; split <;> simp
@[simp] theorem read32_globalEnSw (a : Addr) (s : State) : ((read32 a s).2).globalEnSw = s.globalEnSw := by unfold read32; split <;> simp
@[simp] theorem read32_pmcEnable (a : Addr) (s : State) : ((read32 a s).2).pmcEnable = s.pmcEnable := by unfold read32; split <;> simp
@[simp] theorem read32_pme (a : Addr) (s : State) : ((read32 a s).2).pme = s.pme := by unfold read32; split <;> simp
@[simp] theorem read32_pfifo (a : Addr) (s : State) : ((read32 a s).2).pfifo = s.pfifo := by unfold read32; split <;> simp
@[simp] theorem read32_pvideo (a : Addr) (s : State) : ((read32 a s).2).pvideo = s.pvideo := by unfold read32; split <;> simp
@[simp] theorem read32_ptimer (a : Addr) (s : State) : ((read32 a s).2).ptimer = s.ptimer := by unfold read32; split <;> simp
@[simp] theorem read32_pbus (a : Addr) (s : State) : ((read32 a s).2).pbus = s.pbus := by unfold read32; split <;> simp
@[simp] theorem read32_gr0Pend (a : Addr) (s : State) : ((read32 a s).2).gr0Pend = s.gr0Pend := by unfold read32; split <;> simp
@[simp] theorem read32_gr1Pend (a : Addr) (s : State) : ((read32 a s).2).gr1Pend = s.gr1Pend := by unfold read32; split <;> simp
@[simp] theorem read32_pfbConfig0 (a : Addr) (s : State) : ((read32 a s).2).pfbConfig0 = s.pfbConfig0 := by unfold read32; split <;> simp
@[simp] theorem read32_vclkDiv (a : Addr) (s : State) : ((read32 a s).2).vclkDiv = s.vclkDiv := by unfold read32; split <;> simp
@[simp] theorem read32_mclkDiv (a : Addr) (s : State) : ((read32 a s).2).mclkDiv = s.mclkDiv := by unfold read32; split <;> simp
@[simp] theorem read32_vclkTimer (a : Addr) (s : State) : ((read32 a s).2).vclkTimer = s.vclkTimer := by unfold read32; split <;> simp
@[simp] theorem read32_mclkTimer (a : Addr) (s : State) : ((read32 a s).2).mclkTimer = s.mclkTimer := by unfold read32; split <;> simp
@[simp] theorem read32_dead (a : Addr) (s : State) : ((read32 a s).2).dead = s.dead := by unfold read32; split <;> simp
@[simp] theorem read32_time (a : Addr) (s : State) : ((read32 a s).2).time = s.time := by unfold read32; split <;> simp
@[simp] theorem read32_num (a : Addr) (s : State) : ((read32 a s).2).num = s.num := by unfold read32; split <;> simp
@[simp] theorem read32_den (a : Addr) (s : State) : ((read32 a s).2).den = s.den := by unfold read32; split <;> simp
@[simp] theorem read32_alarm (a : Addr) (s : State) : ((read32 a s).2).alarm = s.alarm := by unfold read32; split <;> simp
@[simp] theorem read32_rmaAddr (a : Addr) (s : State) : ((read32 a s).2).rmaAddr = s.rmaAddr := by unfold read32; split <;> simp
@[simp] theorem read32_rmaData (a : Addr) (s : State) : ((read32 a s).2).rmaData = s.rmaData := by unfold read32; split <;> simp
@[simp] theorem read32_rmaMode (a : Addr) (s : State) : ((read32 a s).2).rmaMode = s.rmaMode := by unfold read32; split <;> simp
@[simp] theorem read32_rmaSave (a : Addr) (s : State) : ((read32 a s).2).rmaSave = s.rmaSave := by unfold read32; split <;> simp
@[simp] theorem read32_rmaDcount (a : Addr) (s : State) : ((read32 a s).2).rmaDcount = s.rmaDcount := by unfold read32; split <;> simp
@[simp] theorem read32_refused (a : Addr) (s : State) : ((read32 a s).2).refused = s.refused := by unfold read32; split <;> simp
@[simp] theorem read32_inbox (a : Addr) (s : State) : ((read32 a s).2).inbox = s.inbox := by unfold read32; split <;> simp
@[simp] theorem read32_response (a : Addr) (s : State) : ((read32 a s).2).response = s.response := by unfold read32; split <;> simp
@[simp] theorem read32_pair (a : Addr) (s : State) (P : PairSource) : ((read32 a s).2).pair P = s.pair P := by cases P <;> simp [State.pair]
@[simp] theorem read32_divider (a : Addr) (s : State) (d : Gen) : ((read32 a s).2).divider d = s.divider d := by cases d <;> simp [State.divider]
@[simp] theorem read32_timer (a : Addr) (s : State) (d : Gen) : ((read32 a s).2).timer d = s.timer d := by cases d <;> simp [State.timer]

/-! ### VgaRead -/

@[simp] theorem vgaRead_cfg (a : Addr) (n : Nat) (s : State) : ((vgaRead a n s).2).cfg = s.cfg := by induction n <;> simp_all [vgaRead, vgaIn]
@[simp] theorem vgaRead_agg (a : Addr) (n : Nat) (s : State) : ((vgaRead a n s).2).agg = s.agg := by induction n <;> simp_all [vgaRead, vgaIn]
@[simp] theorem vgaRead_swStatus (a : Addr) (n : Nat) (s : State) : ((vgaRead a n s).2).swStatus = s.swStatus := by induction n <;> simp_all [vgaRead, vgaIn]
@[simp] theorem vgaRead_globalEnHw (a : Addr) (n : Nat) (s : State) : ((vgaRead a n s).2).globalEnHw = s.globalEnHw := by induction n <;> simp_all [vgaRead, vgaIn]
@[simp] theorem vgaRead_globalEnSw (a : Addr) (n : Nat) (s : State) : ((vgaRead a n s).2).globalEnSw = s.globalEnSw := by induction n <;> simp_all [vgaRead, vgaIn]
@[simp] theorem vgaRead_pmcEnable (a : Addr) (n : Nat) (s : State) : ((vgaRead a n s).2).pmcEnable = s.pmcEnable := by induction n <;> simp_all [vgaRead, vgaIn]
@[simp] theorem vgaRead_pme (a : Addr) (n : Nat) (s : State) : ((vgaRead a n s).2).pme = s.pme := by induction n <;> simp_all [vgaRead, vgaIn]
@[simp] theorem vgaRead_pfifo (a : Addr) (n : Nat) (s : State) : ((vgaRead a n s).2).pfifo = s.pfifo := by induction n <;> simp_all [vgaRead, vgaIn]
@[simp] theorem vgaRead_pvideo (a : Addr) (n : Nat) (s : State) : ((vgaRead a n s).2).pvideo = s.pvideo := by induction n <;> simp_all [vgaRead, vgaIn]
@[simp] theorem vgaRead_ptimer (a : Addr) (n : Nat) (s : State) : ((vgaRead a n s).2).ptimer = s.ptimer := by induction n <;> simp_all [vgaRead, vgaIn]
@[simp] theorem vgaRead_pbus (a : Addr) (n : Nat) (s : State) : ((vgaRead a n s).2).pbus = s.pbus := by induction n <;> simp_all [vgaRead, vgaIn]
@[simp] theorem vgaRead_gr0Pend (a : Addr) (n : Nat) (s : State) : ((vgaRead a n s).2).gr0Pend = s.gr0Pend := by induction n <;> simp_all [vgaRead, vgaIn]
@[simp] theorem vgaRead_gr1Pend (a : Addr) (n : Nat) (s : State) : ((vgaRead a n s).2).gr1Pend = s.gr1Pend := by induction n <;> simp_all [vgaRead, vgaIn]
@[simp] theorem vgaRead_pfbConfig0 (a : Addr) (n : Nat) (s : State) : ((vgaRead a n s).2).pfbConfig0 = s.pfbConfig0 := by induction n <;> simp_all [vgaRead, vgaIn]
@[simp] theorem vgaRead_vclkDiv (a : Addr) (n : Nat) (s : State) : ((vgaRead a n s).2).vclkDiv = s.vclkDiv := by induction n <;> simp_all [vgaRead, vgaIn]
@[simp] theorem vgaRead_mclkDiv (a : Addr) (n : Nat) (s : State) : ((vgaRead a n s).2).mclkDiv = s.mclkDiv := by induction n <;> simp_all [vgaRead, vgaIn]
@[simp] theorem vgaRead_vclkTimer (a : Addr) (n : Nat) (s : State) : ((vgaRead a n s).2).vclkTimer = s.vclkTimer := by induction n <;> simp_all [vgaRead, vgaIn]
@[simp] theorem vgaRead_mclkTimer (a : Addr) (n : Nat) (s : State) : ((vgaRead a n s).2).mclkTimer = s.mclkTimer := by induction n <;> simp_all [vgaRead, vgaIn]
@[simp] theorem vgaRead_dead (a : Addr) (n : Nat) (s : State) : ((vgaRead a n s).2).dead = s.dead := by induction n <;> simp_all [vgaRead, vgaIn]
@[simp] theorem vgaRead_time (a : Addr) (n : Nat) (s : State) : ((vgaRead a n s).2).time = s.time := by induction n <;> simp_all [vgaRead, vgaIn]
@[simp] theorem vgaRead_num (a : Addr) (n : Nat) (s : State) : ((vgaRead a n s).2).num = s.num := by induction n <;> simp_all [vgaRead, vgaIn]
@[simp] theorem vgaRead_den (a : Addr) (n : Nat) (s : State) : ((vgaRead a n s).2).den = s.den := by induction n <;> simp_all [vgaRead, vgaIn]
@[simp] theorem vgaRead_alarm (a : Addr) (n : Nat) (s : State) : ((vgaRead a n s).2).alarm = s.alarm := by induction n <;> simp_all [vgaRead, vgaIn]
@[simp] theorem vgaRead_line (a : Addr) (n : Nat) (s : State) : ((vgaRead a n s).2).line = s.line := by induction n <;> simp_all [vgaRead, vgaIn]
@[simp] theorem vgaRead_rmaAddr (a : Addr) (n : Nat) (s : State) : ((vgaRead a n s).2).rmaAddr = s.rmaAddr := by induction n <;> simp_all [vgaRead, vgaIn]
@[simp] theorem vgaRead_rmaData (a : Addr) (n : Nat) (s : State) : ((vgaRead a n s).2).rmaData = s.rmaData := by induction n <;> simp_all [vgaRead, vgaIn]
@[simp] theorem vgaRead_rmaMode (a : Addr) (n : Nat) (s : State) : ((vgaRead a n s).2).rmaMode = s.rmaMode := by induction n <;> simp_all [vgaRead, vgaIn]
@[simp] theorem vgaRead_rmaSave (a : Addr) (n : Nat) (s : State) : ((vgaRead a n s).2).rmaSave = s.rmaSave := by induction n <;> simp_all [vgaRead, vgaIn]
@[simp] theorem vgaRead_rmaDcount (a : Addr) (n : Nat) (s : State) : ((vgaRead a n s).2).rmaDcount = s.rmaDcount := by induction n <;> simp_all [vgaRead, vgaIn]
@[simp] theorem vgaRead_refused (a : Addr) (n : Nat) (s : State) : ((vgaRead a n s).2).refused = s.refused := by induction n <;> simp_all [vgaRead, vgaIn]
@[simp] theorem vgaRead_inbox (a : Addr) (n : Nat) (s : State) : ((vgaRead a n s).2).inbox = s.inbox := by induction n <;> simp_all [vgaRead, vgaIn]
@[simp] theorem vgaRead_response (a : Addr) (n : Nat) (s : State) : ((vgaRead a n s).2).response = s.response := by induction n <;> simp_all [vgaRead, vgaIn]
@[simp] theorem vgaRead_pair (a : Addr) (n : Nat) (s : State) (P : PairSource) : ((vgaRead a n s).2).pair P = s.pair P := by cases P <;> simp [State.pair]
@[simp] theorem vgaRead_divider (a : Addr) (n : Nat) (s : State) (d : Gen) : ((vgaRead a n s).2).divider d = s.divider d := by cases d <;> simp [State.divider]
@[simp] theorem vgaRead_timer (a : Addr) (n : Nat) (s : State) (d : Gen) : ((vgaRead a n s).2).timer d = s.timer d := by cases d <;> simp [State.timer]

/-! ### MemRead, 8 bits -/

@[simp] theorem memRead8_cfg (a : Addr) (s : State) : ((memRead8 a s).2).cfg = s.cfg := by unfold memRead8; split <;> simp
@[simp] theorem memRead8_swStatus (a : Addr) (s : State) : ((memRead8 a s).2).swStatus = s.swStatus := by unfold memRead8; split <;> simp
@[simp] theorem memRead8_globalEnHw (a : Addr) (s : State) : ((memRead8 a s).2).globalEnHw = s.globalEnHw := by unfold memRead8; split <;> simp
@[simp] theorem memRead8_globalEnSw (a : Addr) (s : State) : ((memRead8 a s).2).globalEnSw = s.globalEnSw := by unfold memRead8; split <;> simp
@[simp] theorem memRead8_pmcEnable (a : Addr) (s : State) : ((memRead8 a s).2).pmcEnable = s.pmcEnable := by unfold memRead8; split <;> simp
@[simp] theorem memRead8_pme (a : Addr) (s : State) : ((memRead8 a s).2).pme = s.pme := by unfold memRead8; split <;> simp
@[simp] theorem memRead8_pfifo (a : Addr) (s : State) : ((memRead8 a s).2).pfifo = s.pfifo := by unfold memRead8; split <;> simp
@[simp] theorem memRead8_pvideo (a : Addr) (s : State) : ((memRead8 a s).2).pvideo = s.pvideo := by unfold memRead8; split <;> simp
@[simp] theorem memRead8_ptimer (a : Addr) (s : State) : ((memRead8 a s).2).ptimer = s.ptimer := by unfold memRead8; split <;> simp
@[simp] theorem memRead8_pbus (a : Addr) (s : State) : ((memRead8 a s).2).pbus = s.pbus := by unfold memRead8; split <;> simp
@[simp] theorem memRead8_gr0Pend (a : Addr) (s : State) : ((memRead8 a s).2).gr0Pend = s.gr0Pend := by unfold memRead8; split <;> simp
@[simp] theorem memRead8_gr1Pend (a : Addr) (s : State) : ((memRead8 a s).2).gr1Pend = s.gr1Pend := by unfold memRead8; split <;> simp
@[simp] theorem memRead8_pfbConfig0 (a : Addr) (s : State) : ((memRead8 a s).2).pfbConfig0 = s.pfbConfig0 := by unfold memRead8; split <;> simp
@[simp] theorem memRead8_vclkDiv (a : Addr) (s : State) : ((memRead8 a s).2).vclkDiv = s.vclkDiv := by unfold memRead8; split <;> simp
@[simp] theorem memRead8_mclkDiv (a : Addr) (s : State) : ((memRead8 a s).2).mclkDiv = s.mclkDiv := by unfold memRead8; split <;> simp
@[simp] theorem memRead8_vclkTimer (a : Addr) (s : State) : ((memRead8 a s).2).vclkTimer = s.vclkTimer := by unfold memRead8; split <;> simp
@[simp] theorem memRead8_mclkTimer (a : Addr) (s : State) : ((memRead8 a s).2).mclkTimer = s.mclkTimer := by unfold memRead8; split <;> simp
@[simp] theorem memRead8_dead (a : Addr) (s : State) : ((memRead8 a s).2).dead = s.dead := by unfold memRead8; split <;> simp
@[simp] theorem memRead8_time (a : Addr) (s : State) : ((memRead8 a s).2).time = s.time := by unfold memRead8; split <;> simp
@[simp] theorem memRead8_num (a : Addr) (s : State) : ((memRead8 a s).2).num = s.num := by unfold memRead8; split <;> simp
@[simp] theorem memRead8_den (a : Addr) (s : State) : ((memRead8 a s).2).den = s.den := by unfold memRead8; split <;> simp
@[simp] theorem memRead8_alarm (a : Addr) (s : State) : ((memRead8 a s).2).alarm = s.alarm := by unfold memRead8; split <;> simp
@[simp] theorem memRead8_rmaAddr (a : Addr) (s : State) : ((memRead8 a s).2).rmaAddr = s.rmaAddr := by unfold memRead8; split <;> simp
@[simp] theorem memRead8_rmaData (a : Addr) (s : State) : ((memRead8 a s).2).rmaData = s.rmaData := by unfold memRead8; split <;> simp
@[simp] theorem memRead8_rmaMode (a : Addr) (s : State) : ((memRead8 a s).2).rmaMode = s.rmaMode := by unfold memRead8; split <;> simp
@[simp] theorem memRead8_rmaSave (a : Addr) (s : State) : ((memRead8 a s).2).rmaSave = s.rmaSave := by unfold memRead8; split <;> simp
@[simp] theorem memRead8_rmaDcount (a : Addr) (s : State) : ((memRead8 a s).2).rmaDcount = s.rmaDcount := by unfold memRead8; split <;> simp
@[simp] theorem memRead8_refused (a : Addr) (s : State) : ((memRead8 a s).2).refused = s.refused := by unfold memRead8; split <;> simp
@[simp] theorem memRead8_inbox (a : Addr) (s : State) : ((memRead8 a s).2).inbox = s.inbox := by unfold memRead8; split <;> simp
@[simp] theorem memRead8_response (a : Addr) (s : State) : ((memRead8 a s).2).response = s.response := by unfold memRead8; split <;> simp
@[simp] theorem memRead8_pair (a : Addr) (s : State) (P : PairSource) : ((memRead8 a s).2).pair P = s.pair P := by cases P <;> simp [State.pair]
@[simp] theorem memRead8_divider (a : Addr) (s : State) (d : Gen) : ((memRead8 a s).2).divider d = s.divider d := by cases d <;> simp [State.divider]
@[simp] theorem memRead8_timer (a : Addr) (s : State) (d : Gen) : ((memRead8 a s).2).timer d = s.timer d := by cases d <;> simp [State.timer]

/-! ### MemRead, 16 bits -/

@[simp] theorem memRead16_cfg (a : Addr) (s : State) : ((memRead16 a s).2).cfg = s.cfg := by unfold memRead16; split <;> simp
@[simp] theorem memRead16_swStatus (a : Addr) (s : State) : ((memRead16 a s).2).swStatus = s.swStatus := by unfold memRead16; split <;> simp
@[simp] theorem memRead16_globalEnHw (a : Addr) (s : State) : ((memRead16 a s).2).globalEnHw = s.globalEnHw := by unfold memRead16; split <;> simp
@[simp] theorem memRead16_globalEnSw (a : Addr) (s : State) : ((memRead16 a s).2).globalEnSw = s.globalEnSw := by unfold memRead16; split <;> simp
@[simp] theorem memRead16_pmcEnable (a : Addr) (s : State) : ((memRead16 a s).2).pmcEnable = s.pmcEnable := by unfold memRead16; split <;> simp
@[simp] theorem memRead16_pme (a : Addr) (s : State) : ((memRead16 a s).2).pme = s.pme := by unfold memRead16; split <;> simp
@[simp] theorem memRead16_pfifo (a : Addr) (s : State) : ((memRead16 a s).2).pfifo = s.pfifo := by unfold memRead16; split <;> simp
@[simp] theorem memRead16_pvideo (a : Addr) (s : State) : ((memRead16 a s).2).pvideo = s.pvideo := by unfold memRead16; split <;> simp
@[simp] theorem memRead16_ptimer (a : Addr) (s : State) : ((memRead16 a s).2).ptimer = s.ptimer := by unfold memRead16; split <;> simp
@[simp] theorem memRead16_pbus (a : Addr) (s : State) : ((memRead16 a s).2).pbus = s.pbus := by unfold memRead16; split <;> simp
@[simp] theorem memRead16_gr0Pend (a : Addr) (s : State) : ((memRead16 a s).2).gr0Pend = s.gr0Pend := by unfold memRead16; split <;> simp
@[simp] theorem memRead16_gr1Pend (a : Addr) (s : State) : ((memRead16 a s).2).gr1Pend = s.gr1Pend := by unfold memRead16; split <;> simp
@[simp] theorem memRead16_pfbConfig0 (a : Addr) (s : State) : ((memRead16 a s).2).pfbConfig0 = s.pfbConfig0 := by unfold memRead16; split <;> simp
@[simp] theorem memRead16_vclkDiv (a : Addr) (s : State) : ((memRead16 a s).2).vclkDiv = s.vclkDiv := by unfold memRead16; split <;> simp
@[simp] theorem memRead16_mclkDiv (a : Addr) (s : State) : ((memRead16 a s).2).mclkDiv = s.mclkDiv := by unfold memRead16; split <;> simp
@[simp] theorem memRead16_vclkTimer (a : Addr) (s : State) : ((memRead16 a s).2).vclkTimer = s.vclkTimer := by unfold memRead16; split <;> simp
@[simp] theorem memRead16_mclkTimer (a : Addr) (s : State) : ((memRead16 a s).2).mclkTimer = s.mclkTimer := by unfold memRead16; split <;> simp
@[simp] theorem memRead16_dead (a : Addr) (s : State) : ((memRead16 a s).2).dead = s.dead := by unfold memRead16; split <;> simp
@[simp] theorem memRead16_time (a : Addr) (s : State) : ((memRead16 a s).2).time = s.time := by unfold memRead16; split <;> simp
@[simp] theorem memRead16_num (a : Addr) (s : State) : ((memRead16 a s).2).num = s.num := by unfold memRead16; split <;> simp
@[simp] theorem memRead16_den (a : Addr) (s : State) : ((memRead16 a s).2).den = s.den := by unfold memRead16; split <;> simp
@[simp] theorem memRead16_alarm (a : Addr) (s : State) : ((memRead16 a s).2).alarm = s.alarm := by unfold memRead16; split <;> simp
@[simp] theorem memRead16_rmaAddr (a : Addr) (s : State) : ((memRead16 a s).2).rmaAddr = s.rmaAddr := by unfold memRead16; split <;> simp
@[simp] theorem memRead16_rmaData (a : Addr) (s : State) : ((memRead16 a s).2).rmaData = s.rmaData := by unfold memRead16; split <;> simp
@[simp] theorem memRead16_rmaMode (a : Addr) (s : State) : ((memRead16 a s).2).rmaMode = s.rmaMode := by unfold memRead16; split <;> simp
@[simp] theorem memRead16_rmaSave (a : Addr) (s : State) : ((memRead16 a s).2).rmaSave = s.rmaSave := by unfold memRead16; split <;> simp
@[simp] theorem memRead16_rmaDcount (a : Addr) (s : State) : ((memRead16 a s).2).rmaDcount = s.rmaDcount := by unfold memRead16; split <;> simp
@[simp] theorem memRead16_refused (a : Addr) (s : State) : ((memRead16 a s).2).refused = s.refused := by unfold memRead16; split <;> simp
@[simp] theorem memRead16_inbox (a : Addr) (s : State) : ((memRead16 a s).2).inbox = s.inbox := by unfold memRead16; split <;> simp
@[simp] theorem memRead16_response (a : Addr) (s : State) : ((memRead16 a s).2).response = s.response := by unfold memRead16; split <;> simp
@[simp] theorem memRead16_pair (a : Addr) (s : State) (P : PairSource) : ((memRead16 a s).2).pair P = s.pair P := by cases P <;> simp [State.pair]
@[simp] theorem memRead16_divider (a : Addr) (s : State) (d : Gen) : ((memRead16 a s).2).divider d = s.divider d := by cases d <;> simp [State.divider]
@[simp] theorem memRead16_timer (a : Addr) (s : State) (d : Gen) : ((memRead16 a s).2).timer d = s.timer d := by cases d <;> simp [State.timer]

/-! ### MemRead, 32 bits -/

@[simp] theorem memRead32_cfg (a : Addr) (s : State) : ((memRead32 a s).2).cfg = s.cfg := by unfold memRead32; split <;> simp
@[simp] theorem memRead32_swStatus (a : Addr) (s : State) : ((memRead32 a s).2).swStatus = s.swStatus := by unfold memRead32; split <;> simp
@[simp] theorem memRead32_globalEnHw (a : Addr) (s : State) : ((memRead32 a s).2).globalEnHw = s.globalEnHw := by unfold memRead32; split <;> simp
@[simp] theorem memRead32_globalEnSw (a : Addr) (s : State) : ((memRead32 a s).2).globalEnSw = s.globalEnSw := by unfold memRead32; split <;> simp
@[simp] theorem memRead32_pmcEnable (a : Addr) (s : State) : ((memRead32 a s).2).pmcEnable = s.pmcEnable := by unfold memRead32; split <;> simp
@[simp] theorem memRead32_pme (a : Addr) (s : State) : ((memRead32 a s).2).pme = s.pme := by unfold memRead32; split <;> simp
@[simp] theorem memRead32_pfifo (a : Addr) (s : State) : ((memRead32 a s).2).pfifo = s.pfifo := by unfold memRead32; split <;> simp
@[simp] theorem memRead32_pvideo (a : Addr) (s : State) : ((memRead32 a s).2).pvideo = s.pvideo := by unfold memRead32; split <;> simp
@[simp] theorem memRead32_ptimer (a : Addr) (s : State) : ((memRead32 a s).2).ptimer = s.ptimer := by unfold memRead32; split <;> simp
@[simp] theorem memRead32_pbus (a : Addr) (s : State) : ((memRead32 a s).2).pbus = s.pbus := by unfold memRead32; split <;> simp
@[simp] theorem memRead32_gr0Pend (a : Addr) (s : State) : ((memRead32 a s).2).gr0Pend = s.gr0Pend := by unfold memRead32; split <;> simp
@[simp] theorem memRead32_gr1Pend (a : Addr) (s : State) : ((memRead32 a s).2).gr1Pend = s.gr1Pend := by unfold memRead32; split <;> simp
@[simp] theorem memRead32_pfbConfig0 (a : Addr) (s : State) : ((memRead32 a s).2).pfbConfig0 = s.pfbConfig0 := by unfold memRead32; split <;> simp
@[simp] theorem memRead32_vclkDiv (a : Addr) (s : State) : ((memRead32 a s).2).vclkDiv = s.vclkDiv := by unfold memRead32; split <;> simp
@[simp] theorem memRead32_mclkDiv (a : Addr) (s : State) : ((memRead32 a s).2).mclkDiv = s.mclkDiv := by unfold memRead32; split <;> simp
@[simp] theorem memRead32_vclkTimer (a : Addr) (s : State) : ((memRead32 a s).2).vclkTimer = s.vclkTimer := by unfold memRead32; split <;> simp
@[simp] theorem memRead32_mclkTimer (a : Addr) (s : State) : ((memRead32 a s).2).mclkTimer = s.mclkTimer := by unfold memRead32; split <;> simp
@[simp] theorem memRead32_dead (a : Addr) (s : State) : ((memRead32 a s).2).dead = s.dead := by unfold memRead32; split <;> simp
@[simp] theorem memRead32_time (a : Addr) (s : State) : ((memRead32 a s).2).time = s.time := by unfold memRead32; split <;> simp
@[simp] theorem memRead32_num (a : Addr) (s : State) : ((memRead32 a s).2).num = s.num := by unfold memRead32; split <;> simp
@[simp] theorem memRead32_den (a : Addr) (s : State) : ((memRead32 a s).2).den = s.den := by unfold memRead32; split <;> simp
@[simp] theorem memRead32_alarm (a : Addr) (s : State) : ((memRead32 a s).2).alarm = s.alarm := by unfold memRead32; split <;> simp
@[simp] theorem memRead32_rmaAddr (a : Addr) (s : State) : ((memRead32 a s).2).rmaAddr = s.rmaAddr := by unfold memRead32; split <;> simp
@[simp] theorem memRead32_rmaData (a : Addr) (s : State) : ((memRead32 a s).2).rmaData = s.rmaData := by unfold memRead32; split <;> simp
@[simp] theorem memRead32_rmaMode (a : Addr) (s : State) : ((memRead32 a s).2).rmaMode = s.rmaMode := by unfold memRead32; split <;> simp
@[simp] theorem memRead32_rmaSave (a : Addr) (s : State) : ((memRead32 a s).2).rmaSave = s.rmaSave := by unfold memRead32; split <;> simp
@[simp] theorem memRead32_rmaDcount (a : Addr) (s : State) : ((memRead32 a s).2).rmaDcount = s.rmaDcount := by unfold memRead32; split <;> simp
@[simp] theorem memRead32_refused (a : Addr) (s : State) : ((memRead32 a s).2).refused = s.refused := by unfold memRead32; split <;> simp
@[simp] theorem memRead32_inbox (a : Addr) (s : State) : ((memRead32 a s).2).inbox = s.inbox := by unfold memRead32; split <;> simp
@[simp] theorem memRead32_response (a : Addr) (s : State) : ((memRead32 a s).2).response = s.response := by unfold memRead32; split <;> simp
@[simp] theorem memRead32_pair (a : Addr) (s : State) (P : PairSource) : ((memRead32 a s).2).pair P = s.pair P := by cases P <;> simp [State.pair]
@[simp] theorem memRead32_divider (a : Addr) (s : State) (d : Gen) : ((memRead32 a s).2).divider d = s.divider d := by cases d <;> simp [State.divider]
@[simp] theorem memRead32_timer (a : Addr) (s : State) (d : Gen) : ((memRead32 a s).2).timer d = s.timer d := by cases d <;> simp [State.timer]

/-! ### The write rules -/

@[simp] theorem writeReg_cfg (r : Reg) (v : Word) (s : State) : (writeReg r v s).cfg = s.cfg := by
  cases r <;> simp [writeReg, writePmcIntr, writePmcIntrEn, writeCoeff]
  split <;> simp
@[simp] theorem writeReg_gr0Pend (r : Reg) (v : Word) (s : State) : (writeReg r v s).gr0Pend = s.gr0Pend := by
  cases r <;> simp [writeReg, writePmcIntr, writePmcIntrEn, writeCoeff]
  split <;> simp
@[simp] theorem writeReg_gr1Pend (r : Reg) (v : Word) (s : State) : (writeReg r v s).gr1Pend = s.gr1Pend := by
  cases r <;> simp [writeReg, writePmcIntr, writePmcIntrEn, writeCoeff]
  split <;> simp
@[simp] theorem writeReg_dead (r : Reg) (v : Word) (s : State) : (writeReg r v s).dead = s.dead := by
  cases r <;> simp [writeReg, writePmcIntr, writePmcIntrEn, writeCoeff]
  split <;> simp
@[simp] theorem writeReg_rmaAddr (r : Reg) (v : Word) (s : State) : (writeReg r v s).rmaAddr = s.rmaAddr := by
  cases r <;> simp [writeReg, writePmcIntr, writePmcIntrEn, writeCoeff]
  split <;> simp
@[simp] theorem writeReg_rmaData (r : Reg) (v : Word) (s : State) : (writeReg r v s).rmaData = s.rmaData := by
  cases r <;> simp [writeReg, writePmcIntr, writePmcIntrEn, writeCoeff]
  split <;> simp
@[simp] theorem writeReg_rmaMode (r : Reg) (v : Word) (s : State) : (writeReg r v s).rmaMode = s.rmaMode := by
  cases r <;> simp [writeReg, writePmcIntr, writePmcIntrEn, writeCoeff]
  split <;> simp
@[simp] theorem writeReg_rmaSave (r : Reg) (v : Word) (s : State) : (writeReg r v s).rmaSave = s.rmaSave := by
  cases r <;> simp [writeReg, writePmcIntr, writePmcIntrEn, writeCoeff]
  split <;> simp
@[simp] theorem writeReg_rmaDcount (r : Reg) (v : Word) (s : State) : (writeReg r v s).rmaDcount = s.rmaDcount := by
  cases r <;> simp [writeReg, writePmcIntr, writePmcIntrEn, writeCoeff]
  split <;> simp
@[simp] theorem writeReg_refused (r : Reg) (v : Word) (s : State) : (writeReg r v s).refused = s.refused := by
  cases r <;> simp [writeReg, writePmcIntr, writePmcIntrEn, writeCoeff]
  split <;> simp
@[simp] theorem writeReg_inbox (r : Reg) (v : Word) (s : State) : (writeReg r v s).inbox = s.inbox := by
  cases r <;> simp [writeReg, writePmcIntr, writePmcIntrEn, writeCoeff]
  split <;> simp
@[simp] theorem writeReg_answers (r : Reg) (v : Word) (s : State) : (writeReg r v s).answers = s.answers := by
  cases r <;> simp [writeReg, writePmcIntr, writePmcIntrEn, writeCoeff]
  split <;> simp
@[simp] theorem writeReg_drawCount (r : Reg) (v : Word) (s : State) : (writeReg r v s).drawCount = s.drawCount := by
  cases r <;> simp [writeReg, writePmcIntr, writePmcIntrEn, writeCoeff]
  split <;> simp
@[simp] theorem writeReg_response (r : Reg) (v : Word) (s : State) : (writeReg r v s).response = s.response := by
  cases r <;> simp [writeReg, writePmcIntr, writePmcIntrEn, writeCoeff]
  split <;> simp

/-! ### Write32 -/

@[simp] theorem write32_cfg (a : Addr) (v : Word) (s : State) : (write32 a v s).cfg = s.cfg := by unfold write32; split <;> simp
@[simp] theorem write32_gr0Pend (a : Addr) (v : Word) (s : State) : (write32 a v s).gr0Pend = s.gr0Pend := by unfold write32; split <;> simp
@[simp] theorem write32_gr1Pend (a : Addr) (v : Word) (s : State) : (write32 a v s).gr1Pend = s.gr1Pend := by unfold write32; split <;> simp
@[simp] theorem write32_dead (a : Addr) (v : Word) (s : State) : (write32 a v s).dead = s.dead := by unfold write32; split <;> simp
@[simp] theorem write32_rmaAddr (a : Addr) (v : Word) (s : State) : (write32 a v s).rmaAddr = s.rmaAddr := by unfold write32; split <;> simp
@[simp] theorem write32_rmaData (a : Addr) (v : Word) (s : State) : (write32 a v s).rmaData = s.rmaData := by unfold write32; split <;> simp
@[simp] theorem write32_rmaMode (a : Addr) (v : Word) (s : State) : (write32 a v s).rmaMode = s.rmaMode := by unfold write32; split <;> simp
@[simp] theorem write32_rmaSave (a : Addr) (v : Word) (s : State) : (write32 a v s).rmaSave = s.rmaSave := by unfold write32; split <;> simp
@[simp] theorem write32_rmaDcount (a : Addr) (v : Word) (s : State) : (write32 a v s).rmaDcount = s.rmaDcount := by unfold write32; split <;> simp
@[simp] theorem write32_refused (a : Addr) (v : Word) (s : State) : (write32 a v s).refused = s.refused := by unfold write32; split <;> simp
@[simp] theorem write32_inbox (a : Addr) (v : Word) (s : State) : (write32 a v s).inbox = s.inbox := by unfold write32; split <;> simp
@[simp] theorem write32_answers (a : Addr) (v : Word) (s : State) : (write32 a v s).answers = s.answers := by unfold write32; split <;> simp
@[simp] theorem write32_drawCount (a : Addr) (v : Word) (s : State) : (write32 a v s).drawCount = s.drawCount := by unfold write32; split <;> simp
@[simp] theorem write32_response (a : Addr) (v : Word) (s : State) : (write32 a v s).response = s.response := by unfold write32; split <;> simp

/-! ### VgaWrite -/

@[simp] theorem vgaWrite_cfg (a : Addr) (v : Word) (n : Nat) (s : State) : (vgaWrite a v n s).cfg = s.cfg := by induction n <;> simp_all [vgaWrite]
@[simp] theorem vgaWrite_agg (a : Addr) (v : Word) (n : Nat) (s : State) : (vgaWrite a v n s).agg = s.agg := by induction n <;> simp_all [vgaWrite]
@[simp] theorem vgaWrite_swStatus (a : Addr) (v : Word) (n : Nat) (s : State) : (vgaWrite a v n s).swStatus = s.swStatus := by induction n <;> simp_all [vgaWrite]
@[simp] theorem vgaWrite_globalEnHw (a : Addr) (v : Word) (n : Nat) (s : State) : (vgaWrite a v n s).globalEnHw = s.globalEnHw := by induction n <;> simp_all [vgaWrite]
@[simp] theorem vgaWrite_globalEnSw (a : Addr) (v : Word) (n : Nat) (s : State) : (vgaWrite a v n s).globalEnSw = s.globalEnSw := by induction n <;> simp_all [vgaWrite]
@[simp] theorem vgaWrite_pmcEnable (a : Addr) (v : Word) (n : Nat) (s : State) : (vgaWrite a v n s).pmcEnable = s.pmcEnable := by induction n <;> simp_all [vgaWrite]
@[simp] theorem vgaWrite_pme (a : Addr) (v : Word) (n : Nat) (s : State) : (vgaWrite a v n s).pme = s.pme := by induction n <;> simp_all [vgaWrite]
@[simp] theorem vgaWrite_pfifo (a : Addr) (v : Word) (n : Nat) (s : State) : (vgaWrite a v n s).pfifo = s.pfifo := by induction n <;> simp_all [vgaWrite]
@[simp] theorem vgaWrite_pvideo (a : Addr) (v : Word) (n : Nat) (s : State) : (vgaWrite a v n s).pvideo = s.pvideo := by induction n <;> simp_all [vgaWrite]
@[simp] theorem vgaWrite_ptimer (a : Addr) (v : Word) (n : Nat) (s : State) : (vgaWrite a v n s).ptimer = s.ptimer := by induction n <;> simp_all [vgaWrite]
@[simp] theorem vgaWrite_pbus (a : Addr) (v : Word) (n : Nat) (s : State) : (vgaWrite a v n s).pbus = s.pbus := by induction n <;> simp_all [vgaWrite]
@[simp] theorem vgaWrite_gr0Pend (a : Addr) (v : Word) (n : Nat) (s : State) : (vgaWrite a v n s).gr0Pend = s.gr0Pend := by induction n <;> simp_all [vgaWrite]
@[simp] theorem vgaWrite_gr1Pend (a : Addr) (v : Word) (n : Nat) (s : State) : (vgaWrite a v n s).gr1Pend = s.gr1Pend := by induction n <;> simp_all [vgaWrite]
@[simp] theorem vgaWrite_pfbConfig0 (a : Addr) (v : Word) (n : Nat) (s : State) : (vgaWrite a v n s).pfbConfig0 = s.pfbConfig0 := by induction n <;> simp_all [vgaWrite]
@[simp] theorem vgaWrite_vclkDiv (a : Addr) (v : Word) (n : Nat) (s : State) : (vgaWrite a v n s).vclkDiv = s.vclkDiv := by induction n <;> simp_all [vgaWrite]
@[simp] theorem vgaWrite_mclkDiv (a : Addr) (v : Word) (n : Nat) (s : State) : (vgaWrite a v n s).mclkDiv = s.mclkDiv := by induction n <;> simp_all [vgaWrite]
@[simp] theorem vgaWrite_vclkTimer (a : Addr) (v : Word) (n : Nat) (s : State) : (vgaWrite a v n s).vclkTimer = s.vclkTimer := by induction n <;> simp_all [vgaWrite]
@[simp] theorem vgaWrite_mclkTimer (a : Addr) (v : Word) (n : Nat) (s : State) : (vgaWrite a v n s).mclkTimer = s.mclkTimer := by induction n <;> simp_all [vgaWrite]
@[simp] theorem vgaWrite_dead (a : Addr) (v : Word) (n : Nat) (s : State) : (vgaWrite a v n s).dead = s.dead := by induction n <;> simp_all [vgaWrite]
@[simp] theorem vgaWrite_time (a : Addr) (v : Word) (n : Nat) (s : State) : (vgaWrite a v n s).time = s.time := by induction n <;> simp_all [vgaWrite]
@[simp] theorem vgaWrite_num (a : Addr) (v : Word) (n : Nat) (s : State) : (vgaWrite a v n s).num = s.num := by induction n <;> simp_all [vgaWrite]
@[simp] theorem vgaWrite_den (a : Addr) (v : Word) (n : Nat) (s : State) : (vgaWrite a v n s).den = s.den := by induction n <;> simp_all [vgaWrite]
@[simp] theorem vgaWrite_alarm (a : Addr) (v : Word) (n : Nat) (s : State) : (vgaWrite a v n s).alarm = s.alarm := by induction n <;> simp_all [vgaWrite]
@[simp] theorem vgaWrite_line (a : Addr) (v : Word) (n : Nat) (s : State) : (vgaWrite a v n s).line = s.line := by induction n <;> simp_all [vgaWrite]
@[simp] theorem vgaWrite_rmaAddr (a : Addr) (v : Word) (n : Nat) (s : State) : (vgaWrite a v n s).rmaAddr = s.rmaAddr := by induction n <;> simp_all [vgaWrite]
@[simp] theorem vgaWrite_rmaData (a : Addr) (v : Word) (n : Nat) (s : State) : (vgaWrite a v n s).rmaData = s.rmaData := by induction n <;> simp_all [vgaWrite]
@[simp] theorem vgaWrite_rmaMode (a : Addr) (v : Word) (n : Nat) (s : State) : (vgaWrite a v n s).rmaMode = s.rmaMode := by induction n <;> simp_all [vgaWrite]
@[simp] theorem vgaWrite_rmaSave (a : Addr) (v : Word) (n : Nat) (s : State) : (vgaWrite a v n s).rmaSave = s.rmaSave := by induction n <;> simp_all [vgaWrite]
@[simp] theorem vgaWrite_rmaDcount (a : Addr) (v : Word) (n : Nat) (s : State) : (vgaWrite a v n s).rmaDcount = s.rmaDcount := by induction n <;> simp_all [vgaWrite]
@[simp] theorem vgaWrite_refused (a : Addr) (v : Word) (n : Nat) (s : State) : (vgaWrite a v n s).refused = s.refused := by induction n <;> simp_all [vgaWrite]
@[simp] theorem vgaWrite_inbox (a : Addr) (v : Word) (n : Nat) (s : State) : (vgaWrite a v n s).inbox = s.inbox := by induction n <;> simp_all [vgaWrite]
@[simp] theorem vgaWrite_answers (a : Addr) (v : Word) (n : Nat) (s : State) : (vgaWrite a v n s).answers = s.answers := by induction n <;> simp_all [vgaWrite]
@[simp] theorem vgaWrite_drawCount (a : Addr) (v : Word) (n : Nat) (s : State) : (vgaWrite a v n s).drawCount = s.drawCount := by induction n <;> simp_all [vgaWrite]
@[simp] theorem vgaWrite_response (a : Addr) (v : Word) (n : Nat) (s : State) : (vgaWrite a v n s).response = s.response := by induction n <;> simp_all [vgaWrite]
@[simp] theorem vgaWrite_pair (a : Addr) (v : Word) (n : Nat) (s : State) (P : PairSource) : (vgaWrite a v n s).pair P = s.pair P := by cases P <;> simp [State.pair]
@[simp] theorem vgaWrite_divider (a : Addr) (v : Word) (n : Nat) (s : State) (d : Gen) : (vgaWrite a v n s).divider d = s.divider d := by cases d <;> simp [State.divider]
@[simp] theorem vgaWrite_timer (a : Addr) (v : Word) (n : Nat) (s : State) (d : Gen) : (vgaWrite a v n s).timer d = s.timer d := by cases d <;> simp [State.timer]

/-! ### MemWrite, 8 bits -/

@[simp] theorem memWrite8_cfg (a : Addr) (v : Byte) (s : State) : (memWrite8 a v s).cfg = s.cfg := by unfold memWrite8; split <;> simp
@[simp] theorem memWrite8_gr0Pend (a : Addr) (v : Byte) (s : State) : (memWrite8 a v s).gr0Pend = s.gr0Pend := by unfold memWrite8; split <;> simp
@[simp] theorem memWrite8_gr1Pend (a : Addr) (v : Byte) (s : State) : (memWrite8 a v s).gr1Pend = s.gr1Pend := by unfold memWrite8; split <;> simp
@[simp] theorem memWrite8_dead (a : Addr) (v : Byte) (s : State) : (memWrite8 a v s).dead = s.dead := by unfold memWrite8; split <;> simp
@[simp] theorem memWrite8_rmaAddr (a : Addr) (v : Byte) (s : State) : (memWrite8 a v s).rmaAddr = s.rmaAddr := by unfold memWrite8; split <;> simp
@[simp] theorem memWrite8_rmaData (a : Addr) (v : Byte) (s : State) : (memWrite8 a v s).rmaData = s.rmaData := by unfold memWrite8; split <;> simp
@[simp] theorem memWrite8_rmaMode (a : Addr) (v : Byte) (s : State) : (memWrite8 a v s).rmaMode = s.rmaMode := by unfold memWrite8; split <;> simp
@[simp] theorem memWrite8_rmaSave (a : Addr) (v : Byte) (s : State) : (memWrite8 a v s).rmaSave = s.rmaSave := by unfold memWrite8; split <;> simp
@[simp] theorem memWrite8_rmaDcount (a : Addr) (v : Byte) (s : State) : (memWrite8 a v s).rmaDcount = s.rmaDcount := by unfold memWrite8; split <;> simp
@[simp] theorem memWrite8_refused (a : Addr) (v : Byte) (s : State) : (memWrite8 a v s).refused = s.refused := by unfold memWrite8; split <;> simp
@[simp] theorem memWrite8_inbox (a : Addr) (v : Byte) (s : State) : (memWrite8 a v s).inbox = s.inbox := by unfold memWrite8; split <;> simp
@[simp] theorem memWrite8_response (a : Addr) (v : Byte) (s : State) : (memWrite8 a v s).response = s.response := by unfold memWrite8; split <;> simp

/-! ### MemWrite, 16 bits -/

@[simp] theorem memWrite16_cfg (a : Addr) (v : Half) (s : State) : (memWrite16 a v s).cfg = s.cfg := by unfold memWrite16; split <;> simp
@[simp] theorem memWrite16_gr0Pend (a : Addr) (v : Half) (s : State) : (memWrite16 a v s).gr0Pend = s.gr0Pend := by unfold memWrite16; split <;> simp
@[simp] theorem memWrite16_gr1Pend (a : Addr) (v : Half) (s : State) : (memWrite16 a v s).gr1Pend = s.gr1Pend := by unfold memWrite16; split <;> simp
@[simp] theorem memWrite16_dead (a : Addr) (v : Half) (s : State) : (memWrite16 a v s).dead = s.dead := by unfold memWrite16; split <;> simp
@[simp] theorem memWrite16_rmaAddr (a : Addr) (v : Half) (s : State) : (memWrite16 a v s).rmaAddr = s.rmaAddr := by unfold memWrite16; split <;> simp
@[simp] theorem memWrite16_rmaData (a : Addr) (v : Half) (s : State) : (memWrite16 a v s).rmaData = s.rmaData := by unfold memWrite16; split <;> simp
@[simp] theorem memWrite16_rmaMode (a : Addr) (v : Half) (s : State) : (memWrite16 a v s).rmaMode = s.rmaMode := by unfold memWrite16; split <;> simp
@[simp] theorem memWrite16_rmaSave (a : Addr) (v : Half) (s : State) : (memWrite16 a v s).rmaSave = s.rmaSave := by unfold memWrite16; split <;> simp
@[simp] theorem memWrite16_rmaDcount (a : Addr) (v : Half) (s : State) : (memWrite16 a v s).rmaDcount = s.rmaDcount := by unfold memWrite16; split <;> simp
@[simp] theorem memWrite16_refused (a : Addr) (v : Half) (s : State) : (memWrite16 a v s).refused = s.refused := by unfold memWrite16; split <;> simp
@[simp] theorem memWrite16_inbox (a : Addr) (v : Half) (s : State) : (memWrite16 a v s).inbox = s.inbox := by unfold memWrite16; split <;> simp
@[simp] theorem memWrite16_response (a : Addr) (v : Half) (s : State) : (memWrite16 a v s).response = s.response := by unfold memWrite16; split <;> simp

/-! ### MemWrite, 32 bits -/

@[simp] theorem memWrite32_cfg (a : Addr) (v : Word) (s : State) : (memWrite32 a v s).cfg = s.cfg := by unfold memWrite32; split <;> simp
@[simp] theorem memWrite32_gr0Pend (a : Addr) (v : Word) (s : State) : (memWrite32 a v s).gr0Pend = s.gr0Pend := by unfold memWrite32; split <;> simp
@[simp] theorem memWrite32_gr1Pend (a : Addr) (v : Word) (s : State) : (memWrite32 a v s).gr1Pend = s.gr1Pend := by unfold memWrite32; split <;> simp
@[simp] theorem memWrite32_dead (a : Addr) (v : Word) (s : State) : (memWrite32 a v s).dead = s.dead := by unfold memWrite32; split <;> simp
@[simp] theorem memWrite32_rmaAddr (a : Addr) (v : Word) (s : State) : (memWrite32 a v s).rmaAddr = s.rmaAddr := by unfold memWrite32; split <;> simp
@[simp] theorem memWrite32_rmaData (a : Addr) (v : Word) (s : State) : (memWrite32 a v s).rmaData = s.rmaData := by unfold memWrite32; split <;> simp
@[simp] theorem memWrite32_rmaMode (a : Addr) (v : Word) (s : State) : (memWrite32 a v s).rmaMode = s.rmaMode := by unfold memWrite32; split <;> simp
@[simp] theorem memWrite32_rmaSave (a : Addr) (v : Word) (s : State) : (memWrite32 a v s).rmaSave = s.rmaSave := by unfold memWrite32; split <;> simp
@[simp] theorem memWrite32_rmaDcount (a : Addr) (v : Word) (s : State) : (memWrite32 a v s).rmaDcount = s.rmaDcount := by unfold memWrite32; split <;> simp
@[simp] theorem memWrite32_refused (a : Addr) (v : Word) (s : State) : (memWrite32 a v s).refused = s.refused := by unfold memWrite32; split <;> simp
@[simp] theorem memWrite32_inbox (a : Addr) (v : Word) (s : State) : (memWrite32 a v s).inbox = s.inbox := by unfold memWrite32; split <;> simp
@[simp] theorem memWrite32_answers (a : Addr) (v : Word) (s : State) : (memWrite32 a v s).answers = s.answers := by unfold memWrite32; split <;> simp
@[simp] theorem memWrite32_drawCount (a : Addr) (v : Word) (s : State) : (memWrite32 a v s).drawCount = s.drawCount := by unfold memWrite32; split <;> simp
@[simp] theorem memWrite32_response (a : Addr) (v : Word) (s : State) : (memWrite32 a v s).response = s.response := by unfold memWrite32; split <;> simp

/-! ### An RMA read -/

@[simp] theorem rmaReadByte_cfg (t : Word) (s : State) : ((rmaReadByte t s).2).cfg = s.cfg := by unfold rmaReadByte; split <;> simp
@[simp] theorem rmaReadByte_swStatus (t : Word) (s : State) : ((rmaReadByte t s).2).swStatus = s.swStatus := by unfold rmaReadByte; split <;> simp
@[simp] theorem rmaReadByte_globalEnHw (t : Word) (s : State) : ((rmaReadByte t s).2).globalEnHw = s.globalEnHw := by unfold rmaReadByte; split <;> simp
@[simp] theorem rmaReadByte_globalEnSw (t : Word) (s : State) : ((rmaReadByte t s).2).globalEnSw = s.globalEnSw := by unfold rmaReadByte; split <;> simp
@[simp] theorem rmaReadByte_pmcEnable (t : Word) (s : State) : ((rmaReadByte t s).2).pmcEnable = s.pmcEnable := by unfold rmaReadByte; split <;> simp
@[simp] theorem rmaReadByte_pme (t : Word) (s : State) : ((rmaReadByte t s).2).pme = s.pme := by unfold rmaReadByte; split <;> simp
@[simp] theorem rmaReadByte_pfifo (t : Word) (s : State) : ((rmaReadByte t s).2).pfifo = s.pfifo := by unfold rmaReadByte; split <;> simp
@[simp] theorem rmaReadByte_pvideo (t : Word) (s : State) : ((rmaReadByte t s).2).pvideo = s.pvideo := by unfold rmaReadByte; split <;> simp
@[simp] theorem rmaReadByte_ptimer (t : Word) (s : State) : ((rmaReadByte t s).2).ptimer = s.ptimer := by unfold rmaReadByte; split <;> simp
@[simp] theorem rmaReadByte_pbus (t : Word) (s : State) : ((rmaReadByte t s).2).pbus = s.pbus := by unfold rmaReadByte; split <;> simp
@[simp] theorem rmaReadByte_gr0Pend (t : Word) (s : State) : ((rmaReadByte t s).2).gr0Pend = s.gr0Pend := by unfold rmaReadByte; split <;> simp
@[simp] theorem rmaReadByte_gr1Pend (t : Word) (s : State) : ((rmaReadByte t s).2).gr1Pend = s.gr1Pend := by unfold rmaReadByte; split <;> simp
@[simp] theorem rmaReadByte_pfbConfig0 (t : Word) (s : State) : ((rmaReadByte t s).2).pfbConfig0 = s.pfbConfig0 := by unfold rmaReadByte; split <;> simp
@[simp] theorem rmaReadByte_vclkDiv (t : Word) (s : State) : ((rmaReadByte t s).2).vclkDiv = s.vclkDiv := by unfold rmaReadByte; split <;> simp
@[simp] theorem rmaReadByte_mclkDiv (t : Word) (s : State) : ((rmaReadByte t s).2).mclkDiv = s.mclkDiv := by unfold rmaReadByte; split <;> simp
@[simp] theorem rmaReadByte_vclkTimer (t : Word) (s : State) : ((rmaReadByte t s).2).vclkTimer = s.vclkTimer := by unfold rmaReadByte; split <;> simp
@[simp] theorem rmaReadByte_mclkTimer (t : Word) (s : State) : ((rmaReadByte t s).2).mclkTimer = s.mclkTimer := by unfold rmaReadByte; split <;> simp
@[simp] theorem rmaReadByte_dead (t : Word) (s : State) : ((rmaReadByte t s).2).dead = s.dead := by unfold rmaReadByte; split <;> simp
@[simp] theorem rmaReadByte_time (t : Word) (s : State) : ((rmaReadByte t s).2).time = s.time := by unfold rmaReadByte; split <;> simp
@[simp] theorem rmaReadByte_num (t : Word) (s : State) : ((rmaReadByte t s).2).num = s.num := by unfold rmaReadByte; split <;> simp
@[simp] theorem rmaReadByte_den (t : Word) (s : State) : ((rmaReadByte t s).2).den = s.den := by unfold rmaReadByte; split <;> simp
@[simp] theorem rmaReadByte_alarm (t : Word) (s : State) : ((rmaReadByte t s).2).alarm = s.alarm := by unfold rmaReadByte; split <;> simp
@[simp] theorem rmaReadByte_rmaAddr (t : Word) (s : State) : ((rmaReadByte t s).2).rmaAddr = s.rmaAddr := by unfold rmaReadByte; split <;> simp
@[simp] theorem rmaReadByte_rmaData (t : Word) (s : State) : ((rmaReadByte t s).2).rmaData = s.rmaData := by unfold rmaReadByte; split <;> simp
@[simp] theorem rmaReadByte_rmaMode (t : Word) (s : State) : ((rmaReadByte t s).2).rmaMode = s.rmaMode := by unfold rmaReadByte; split <;> simp
@[simp] theorem rmaReadByte_rmaSave (t : Word) (s : State) : ((rmaReadByte t s).2).rmaSave = s.rmaSave := by unfold rmaReadByte; split <;> simp
@[simp] theorem rmaReadByte_rmaDcount (t : Word) (s : State) : ((rmaReadByte t s).2).rmaDcount = s.rmaDcount := by unfold rmaReadByte; split <;> simp
@[simp] theorem rmaReadByte_refused (t : Word) (s : State) : ((rmaReadByte t s).2).refused = s.refused := by unfold rmaReadByte; split <;> simp
@[simp] theorem rmaReadByte_inbox (t : Word) (s : State) : ((rmaReadByte t s).2).inbox = s.inbox := by unfold rmaReadByte; split <;> simp
@[simp] theorem rmaReadByte_response (t : Word) (s : State) : ((rmaReadByte t s).2).response = s.response := by unfold rmaReadByte; split <;> simp
@[simp] theorem rmaReadByte_pair (t : Word) (s : State) (P : PairSource) : ((rmaReadByte t s).2).pair P = s.pair P := by cases P <;> simp [State.pair]
@[simp] theorem rmaReadByte_divider (t : Word) (s : State) (d : Gen) : ((rmaReadByte t s).2).divider d = s.divider d := by cases d <;> simp [State.divider]
@[simp] theorem rmaReadByte_timer (t : Word) (s : State) (d : Gen) : ((rmaReadByte t s).2).timer d = s.timer d := by cases d <;> simp [State.timer]

/-! ### RMA_IN -/

@[simp] theorem rmaRead_cfg (p : Byte) (s : State) : ((rmaRead p s).2).cfg = s.cfg := by unfold rmaRead; (repeat' split) <;> simp
@[simp] theorem rmaRead_swStatus (p : Byte) (s : State) : ((rmaRead p s).2).swStatus = s.swStatus := by unfold rmaRead; (repeat' split) <;> simp
@[simp] theorem rmaRead_globalEnHw (p : Byte) (s : State) : ((rmaRead p s).2).globalEnHw = s.globalEnHw := by unfold rmaRead; (repeat' split) <;> simp
@[simp] theorem rmaRead_globalEnSw (p : Byte) (s : State) : ((rmaRead p s).2).globalEnSw = s.globalEnSw := by unfold rmaRead; (repeat' split) <;> simp
@[simp] theorem rmaRead_pmcEnable (p : Byte) (s : State) : ((rmaRead p s).2).pmcEnable = s.pmcEnable := by unfold rmaRead; (repeat' split) <;> simp
@[simp] theorem rmaRead_pme (p : Byte) (s : State) : ((rmaRead p s).2).pme = s.pme := by unfold rmaRead; (repeat' split) <;> simp
@[simp] theorem rmaRead_pfifo (p : Byte) (s : State) : ((rmaRead p s).2).pfifo = s.pfifo := by unfold rmaRead; (repeat' split) <;> simp
@[simp] theorem rmaRead_pvideo (p : Byte) (s : State) : ((rmaRead p s).2).pvideo = s.pvideo := by unfold rmaRead; (repeat' split) <;> simp
@[simp] theorem rmaRead_ptimer (p : Byte) (s : State) : ((rmaRead p s).2).ptimer = s.ptimer := by unfold rmaRead; (repeat' split) <;> simp
@[simp] theorem rmaRead_pbus (p : Byte) (s : State) : ((rmaRead p s).2).pbus = s.pbus := by unfold rmaRead; (repeat' split) <;> simp
@[simp] theorem rmaRead_gr0Pend (p : Byte) (s : State) : ((rmaRead p s).2).gr0Pend = s.gr0Pend := by unfold rmaRead; (repeat' split) <;> simp
@[simp] theorem rmaRead_gr1Pend (p : Byte) (s : State) : ((rmaRead p s).2).gr1Pend = s.gr1Pend := by unfold rmaRead; (repeat' split) <;> simp
@[simp] theorem rmaRead_pfbConfig0 (p : Byte) (s : State) : ((rmaRead p s).2).pfbConfig0 = s.pfbConfig0 := by unfold rmaRead; (repeat' split) <;> simp
@[simp] theorem rmaRead_vclkDiv (p : Byte) (s : State) : ((rmaRead p s).2).vclkDiv = s.vclkDiv := by unfold rmaRead; (repeat' split) <;> simp
@[simp] theorem rmaRead_mclkDiv (p : Byte) (s : State) : ((rmaRead p s).2).mclkDiv = s.mclkDiv := by unfold rmaRead; (repeat' split) <;> simp
@[simp] theorem rmaRead_vclkTimer (p : Byte) (s : State) : ((rmaRead p s).2).vclkTimer = s.vclkTimer := by unfold rmaRead; (repeat' split) <;> simp
@[simp] theorem rmaRead_mclkTimer (p : Byte) (s : State) : ((rmaRead p s).2).mclkTimer = s.mclkTimer := by unfold rmaRead; (repeat' split) <;> simp
@[simp] theorem rmaRead_dead (p : Byte) (s : State) : ((rmaRead p s).2).dead = s.dead := by unfold rmaRead; (repeat' split) <;> simp
@[simp] theorem rmaRead_time (p : Byte) (s : State) : ((rmaRead p s).2).time = s.time := by unfold rmaRead; (repeat' split) <;> simp
@[simp] theorem rmaRead_num (p : Byte) (s : State) : ((rmaRead p s).2).num = s.num := by unfold rmaRead; (repeat' split) <;> simp
@[simp] theorem rmaRead_den (p : Byte) (s : State) : ((rmaRead p s).2).den = s.den := by unfold rmaRead; (repeat' split) <;> simp
@[simp] theorem rmaRead_alarm (p : Byte) (s : State) : ((rmaRead p s).2).alarm = s.alarm := by unfold rmaRead; (repeat' split) <;> simp
@[simp] theorem rmaRead_rmaAddr (p : Byte) (s : State) : ((rmaRead p s).2).rmaAddr = s.rmaAddr := by unfold rmaRead; (repeat' split) <;> simp
@[simp] theorem rmaRead_rmaData (p : Byte) (s : State) : ((rmaRead p s).2).rmaData = s.rmaData := by unfold rmaRead; (repeat' split) <;> simp
@[simp] theorem rmaRead_rmaMode (p : Byte) (s : State) : ((rmaRead p s).2).rmaMode = s.rmaMode := by unfold rmaRead; (repeat' split) <;> simp
@[simp] theorem rmaRead_rmaSave (p : Byte) (s : State) : ((rmaRead p s).2).rmaSave = s.rmaSave := by unfold rmaRead; (repeat' split) <;> simp
@[simp] theorem rmaRead_rmaDcount (p : Byte) (s : State) : ((rmaRead p s).2).rmaDcount = s.rmaDcount := by unfold rmaRead; (repeat' split) <;> simp
@[simp] theorem rmaRead_refused (p : Byte) (s : State) : ((rmaRead p s).2).refused = s.refused := by unfold rmaRead; (repeat' split) <;> simp
@[simp] theorem rmaRead_inbox (p : Byte) (s : State) : ((rmaRead p s).2).inbox = s.inbox := by unfold rmaRead; (repeat' split) <;> simp
@[simp] theorem rmaRead_response (p : Byte) (s : State) : ((rmaRead p s).2).response = s.response := by unfold rmaRead; (repeat' split) <;> simp
@[simp] theorem rmaRead_pair (p : Byte) (s : State) (P : PairSource) : ((rmaRead p s).2).pair P = s.pair P := by cases P <;> simp [State.pair]
@[simp] theorem rmaRead_divider (p : Byte) (s : State) (d : Gen) : ((rmaRead p s).2).divider d = s.divider d := by cases d <;> simp [State.divider]
@[simp] theorem rmaRead_timer (p : Byte) (s : State) (d : Gen) : ((rmaRead p s).2).timer d = s.timer d := by cases d <;> simp [State.timer]

/-! ### An RMA write -/

@[simp] theorem rmaWriteWord_cfg (t v : Word) (s : State) : (rmaWriteWord t v s).cfg = s.cfg := by unfold rmaWriteWord; split <;> simp
@[simp] theorem rmaWriteWord_gr0Pend (t v : Word) (s : State) : (rmaWriteWord t v s).gr0Pend = s.gr0Pend := by unfold rmaWriteWord; split <;> simp
@[simp] theorem rmaWriteWord_gr1Pend (t v : Word) (s : State) : (rmaWriteWord t v s).gr1Pend = s.gr1Pend := by unfold rmaWriteWord; split <;> simp
@[simp] theorem rmaWriteWord_dead (t v : Word) (s : State) : (rmaWriteWord t v s).dead = s.dead := by unfold rmaWriteWord; split <;> simp
@[simp] theorem rmaWriteWord_rmaAddr (t v : Word) (s : State) : (rmaWriteWord t v s).rmaAddr = s.rmaAddr := by unfold rmaWriteWord; split <;> simp
@[simp] theorem rmaWriteWord_rmaData (t v : Word) (s : State) : (rmaWriteWord t v s).rmaData = s.rmaData := by unfold rmaWriteWord; split <;> simp
@[simp] theorem rmaWriteWord_rmaMode (t v : Word) (s : State) : (rmaWriteWord t v s).rmaMode = s.rmaMode := by unfold rmaWriteWord; split <;> simp
@[simp] theorem rmaWriteWord_rmaSave (t v : Word) (s : State) : (rmaWriteWord t v s).rmaSave = s.rmaSave := by unfold rmaWriteWord; split <;> simp
@[simp] theorem rmaWriteWord_rmaDcount (t v : Word) (s : State) : (rmaWriteWord t v s).rmaDcount = s.rmaDcount := by unfold rmaWriteWord; split <;> simp
@[simp] theorem rmaWriteWord_refused (t v : Word) (s : State) : (rmaWriteWord t v s).refused = s.refused := by unfold rmaWriteWord; split <;> simp
@[simp] theorem rmaWriteWord_inbox (t v : Word) (s : State) : (rmaWriteWord t v s).inbox = s.inbox := by unfold rmaWriteWord; split <;> simp
@[simp] theorem rmaWriteWord_answers (t v : Word) (s : State) : (rmaWriteWord t v s).answers = s.answers := by unfold rmaWriteWord; split <;> simp
@[simp] theorem rmaWriteWord_drawCount (t v : Word) (s : State) : (rmaWriteWord t v s).drawCount = s.drawCount := by unfold rmaWriteWord; split <;> simp
@[simp] theorem rmaWriteWord_response (t v : Word) (s : State) : (rmaWriteWord t v s).response = s.response := by unfold rmaWriteWord; split <;> simp

/-! ### RmaTxn -/

@[simp] theorem rmaTxn_cfg (s : State) : (rmaTxn s).cfg = s.cfg := by unfold rmaTxn autoIncrement; split <;> simp
@[simp] theorem rmaTxn_gr0Pend (s : State) : (rmaTxn s).gr0Pend = s.gr0Pend := by unfold rmaTxn autoIncrement; split <;> simp
@[simp] theorem rmaTxn_gr1Pend (s : State) : (rmaTxn s).gr1Pend = s.gr1Pend := by unfold rmaTxn autoIncrement; split <;> simp
@[simp] theorem rmaTxn_dead (s : State) : (rmaTxn s).dead = s.dead := by unfold rmaTxn autoIncrement; split <;> simp
@[simp] theorem rmaTxn_rmaData (s : State) : (rmaTxn s).rmaData = s.rmaData := by unfold rmaTxn autoIncrement; split <;> simp
@[simp] theorem rmaTxn_rmaMode (s : State) : (rmaTxn s).rmaMode = s.rmaMode := by unfold rmaTxn autoIncrement; split <;> simp
@[simp] theorem rmaTxn_rmaSave (s : State) : (rmaTxn s).rmaSave = s.rmaSave := by unfold rmaTxn autoIncrement; split <;> simp
@[simp] theorem rmaTxn_rmaDcount (s : State) : (rmaTxn s).rmaDcount = s.rmaDcount := by unfold rmaTxn autoIncrement; split <;> simp
@[simp] theorem rmaTxn_refused (s : State) : (rmaTxn s).refused = s.refused := by unfold rmaTxn autoIncrement; split <;> simp
@[simp] theorem rmaTxn_inbox (s : State) : (rmaTxn s).inbox = s.inbox := by unfold rmaTxn autoIncrement; split <;> simp
@[simp] theorem rmaTxn_answers (s : State) : (rmaTxn s).answers = s.answers := by unfold rmaTxn autoIncrement; split <;> simp
@[simp] theorem rmaTxn_drawCount (s : State) : (rmaTxn s).drawCount = s.drawCount := by unfold rmaTxn autoIncrement; split <;> simp
@[simp] theorem rmaTxn_response (s : State) : (rmaTxn s).response = s.response := by unfold rmaTxn autoIncrement; split <;> simp

/-! ### Trigger -/

@[simp] theorem trigger_cfg (k : Fin 4) (s : State) : ((trigger k s).2).cfg = s.cfg := by unfold trigger; split <;> rfl
@[simp] theorem trigger_agg (k : Fin 4) (s : State) : ((trigger k s).2).agg = s.agg := by unfold trigger; split <;> rfl
@[simp] theorem trigger_swStatus (k : Fin 4) (s : State) : ((trigger k s).2).swStatus = s.swStatus := by unfold trigger; split <;> rfl
@[simp] theorem trigger_globalEnHw (k : Fin 4) (s : State) : ((trigger k s).2).globalEnHw = s.globalEnHw := by unfold trigger; split <;> rfl
@[simp] theorem trigger_globalEnSw (k : Fin 4) (s : State) : ((trigger k s).2).globalEnSw = s.globalEnSw := by unfold trigger; split <;> rfl
@[simp] theorem trigger_pmcEnable (k : Fin 4) (s : State) : ((trigger k s).2).pmcEnable = s.pmcEnable := by unfold trigger; split <;> rfl
@[simp] theorem trigger_pme (k : Fin 4) (s : State) : ((trigger k s).2).pme = s.pme := by unfold trigger; split <;> rfl
@[simp] theorem trigger_pfifo (k : Fin 4) (s : State) : ((trigger k s).2).pfifo = s.pfifo := by unfold trigger; split <;> rfl
@[simp] theorem trigger_pvideo (k : Fin 4) (s : State) : ((trigger k s).2).pvideo = s.pvideo := by unfold trigger; split <;> rfl
@[simp] theorem trigger_ptimer (k : Fin 4) (s : State) : ((trigger k s).2).ptimer = s.ptimer := by unfold trigger; split <;> rfl
@[simp] theorem trigger_pbus (k : Fin 4) (s : State) : ((trigger k s).2).pbus = s.pbus := by unfold trigger; split <;> rfl
@[simp] theorem trigger_gr0Pend (k : Fin 4) (s : State) : ((trigger k s).2).gr0Pend = s.gr0Pend := by unfold trigger; split <;> rfl
@[simp] theorem trigger_gr1Pend (k : Fin 4) (s : State) : ((trigger k s).2).gr1Pend = s.gr1Pend := by unfold trigger; split <;> rfl
@[simp] theorem trigger_pfbConfig0 (k : Fin 4) (s : State) : ((trigger k s).2).pfbConfig0 = s.pfbConfig0 := by unfold trigger; split <;> rfl
@[simp] theorem trigger_vclkDiv (k : Fin 4) (s : State) : ((trigger k s).2).vclkDiv = s.vclkDiv := by unfold trigger; split <;> rfl
@[simp] theorem trigger_mclkDiv (k : Fin 4) (s : State) : ((trigger k s).2).mclkDiv = s.mclkDiv := by unfold trigger; split <;> rfl
@[simp] theorem trigger_vclkTimer (k : Fin 4) (s : State) : ((trigger k s).2).vclkTimer = s.vclkTimer := by unfold trigger; split <;> rfl
@[simp] theorem trigger_mclkTimer (k : Fin 4) (s : State) : ((trigger k s).2).mclkTimer = s.mclkTimer := by unfold trigger; split <;> rfl
@[simp] theorem trigger_dead (k : Fin 4) (s : State) : ((trigger k s).2).dead = s.dead := by unfold trigger; split <;> rfl
@[simp] theorem trigger_time (k : Fin 4) (s : State) : ((trigger k s).2).time = s.time := by unfold trigger; split <;> rfl
@[simp] theorem trigger_num (k : Fin 4) (s : State) : ((trigger k s).2).num = s.num := by unfold trigger; split <;> rfl
@[simp] theorem trigger_den (k : Fin 4) (s : State) : ((trigger k s).2).den = s.den := by unfold trigger; split <;> rfl
@[simp] theorem trigger_alarm (k : Fin 4) (s : State) : ((trigger k s).2).alarm = s.alarm := by unfold trigger; split <;> rfl
@[simp] theorem trigger_line (k : Fin 4) (s : State) : ((trigger k s).2).line = s.line := by unfold trigger; split <;> rfl
@[simp] theorem trigger_rmaAddr (k : Fin 4) (s : State) : ((trigger k s).2).rmaAddr = s.rmaAddr := by unfold trigger; split <;> rfl
@[simp] theorem trigger_rmaData (k : Fin 4) (s : State) : ((trigger k s).2).rmaData = s.rmaData := by unfold trigger; split <;> rfl
@[simp] theorem trigger_rmaMode (k : Fin 4) (s : State) : ((trigger k s).2).rmaMode = s.rmaMode := by unfold trigger; split <;> rfl
@[simp] theorem trigger_rmaSave (k : Fin 4) (s : State) : ((trigger k s).2).rmaSave = s.rmaSave := by unfold trigger; split <;> rfl
@[simp] theorem trigger_refused (k : Fin 4) (s : State) : ((trigger k s).2).refused = s.refused := by unfold trigger; split <;> rfl
@[simp] theorem trigger_inbox (k : Fin 4) (s : State) : ((trigger k s).2).inbox = s.inbox := by unfold trigger; split <;> rfl
@[simp] theorem trigger_answers (k : Fin 4) (s : State) : ((trigger k s).2).answers = s.answers := by unfold trigger; split <;> rfl
@[simp] theorem trigger_drawCount (k : Fin 4) (s : State) : ((trigger k s).2).drawCount = s.drawCount := by unfold trigger; split <;> rfl
@[simp] theorem trigger_calls (k : Fin 4) (s : State) : ((trigger k s).2).calls = s.calls := by unfold trigger; split <;> rfl
@[simp] theorem trigger_response (k : Fin 4) (s : State) : ((trigger k s).2).response = s.response := by unfold trigger; split <;> rfl
@[simp] theorem trigger_pair (k : Fin 4) (s : State) (P : PairSource) : ((trigger k s).2).pair P = s.pair P := by cases P <;> simp [State.pair]
@[simp] theorem trigger_divider (k : Fin 4) (s : State) (d : Gen) : ((trigger k s).2).divider d = s.divider d := by cases d <;> simp [State.divider]
@[simp] theorem trigger_timer (k : Fin 4) (s : State) (d : Gen) : ((trigger k s).2).timer d = s.timer d := by cases d <;> simp [State.timer]

/-! ### Completing a transaction -/

@[simp] theorem completeIf_cfg (b : Bool) (s : State) : (completeIf b s).cfg = s.cfg := by unfold completeIf; split <;> simp
@[simp] theorem completeIf_gr0Pend (b : Bool) (s : State) : (completeIf b s).gr0Pend = s.gr0Pend := by unfold completeIf; split <;> simp
@[simp] theorem completeIf_gr1Pend (b : Bool) (s : State) : (completeIf b s).gr1Pend = s.gr1Pend := by unfold completeIf; split <;> simp
@[simp] theorem completeIf_dead (b : Bool) (s : State) : (completeIf b s).dead = s.dead := by unfold completeIf; split <;> simp
@[simp] theorem completeIf_rmaData (b : Bool) (s : State) : (completeIf b s).rmaData = s.rmaData := by unfold completeIf; split <;> simp
@[simp] theorem completeIf_rmaMode (b : Bool) (s : State) : (completeIf b s).rmaMode = s.rmaMode := by unfold completeIf; split <;> simp
@[simp] theorem completeIf_rmaSave (b : Bool) (s : State) : (completeIf b s).rmaSave = s.rmaSave := by unfold completeIf; split <;> simp
@[simp] theorem completeIf_rmaDcount (b : Bool) (s : State) : (completeIf b s).rmaDcount = s.rmaDcount := by unfold completeIf; split <;> simp
@[simp] theorem completeIf_refused (b : Bool) (s : State) : (completeIf b s).refused = s.refused := by unfold completeIf; split <;> simp
@[simp] theorem completeIf_inbox (b : Bool) (s : State) : (completeIf b s).inbox = s.inbox := by unfold completeIf; split <;> simp
@[simp] theorem completeIf_answers (b : Bool) (s : State) : (completeIf b s).answers = s.answers := by unfold completeIf; split <;> simp
@[simp] theorem completeIf_drawCount (b : Bool) (s : State) : (completeIf b s).drawCount = s.drawCount := by unfold completeIf; split <;> simp
@[simp] theorem completeIf_response (b : Bool) (s : State) : (completeIf b s).response = s.response := by unfold completeIf; split <;> simp

/-! ### A byte at an address port -/

@[simp] theorem rmaAddrByte_cfg (k : Fin 4) (b : Byte) (s : State) : (rmaAddrByte k b s).cfg = s.cfg := rfl
@[simp] theorem rmaAddrByte_agg (k : Fin 4) (b : Byte) (s : State) : (rmaAddrByte k b s).agg = s.agg := rfl
@[simp] theorem rmaAddrByte_swStatus (k : Fin 4) (b : Byte) (s : State) : (rmaAddrByte k b s).swStatus = s.swStatus := rfl
@[simp] theorem rmaAddrByte_globalEnHw (k : Fin 4) (b : Byte) (s : State) : (rmaAddrByte k b s).globalEnHw = s.globalEnHw := rfl
@[simp] theorem rmaAddrByte_globalEnSw (k : Fin 4) (b : Byte) (s : State) : (rmaAddrByte k b s).globalEnSw = s.globalEnSw := rfl
@[simp] theorem rmaAddrByte_pmcEnable (k : Fin 4) (b : Byte) (s : State) : (rmaAddrByte k b s).pmcEnable = s.pmcEnable := rfl
@[simp] theorem rmaAddrByte_pme (k : Fin 4) (b : Byte) (s : State) : (rmaAddrByte k b s).pme = s.pme := rfl
@[simp] theorem rmaAddrByte_pfifo (k : Fin 4) (b : Byte) (s : State) : (rmaAddrByte k b s).pfifo = s.pfifo := rfl
@[simp] theorem rmaAddrByte_pvideo (k : Fin 4) (b : Byte) (s : State) : (rmaAddrByte k b s).pvideo = s.pvideo := rfl
@[simp] theorem rmaAddrByte_ptimer (k : Fin 4) (b : Byte) (s : State) : (rmaAddrByte k b s).ptimer = s.ptimer := rfl
@[simp] theorem rmaAddrByte_pbus (k : Fin 4) (b : Byte) (s : State) : (rmaAddrByte k b s).pbus = s.pbus := rfl
@[simp] theorem rmaAddrByte_gr0Pend (k : Fin 4) (b : Byte) (s : State) : (rmaAddrByte k b s).gr0Pend = s.gr0Pend := rfl
@[simp] theorem rmaAddrByte_gr1Pend (k : Fin 4) (b : Byte) (s : State) : (rmaAddrByte k b s).gr1Pend = s.gr1Pend := rfl
@[simp] theorem rmaAddrByte_pfbConfig0 (k : Fin 4) (b : Byte) (s : State) : (rmaAddrByte k b s).pfbConfig0 = s.pfbConfig0 := rfl
@[simp] theorem rmaAddrByte_vclkDiv (k : Fin 4) (b : Byte) (s : State) : (rmaAddrByte k b s).vclkDiv = s.vclkDiv := rfl
@[simp] theorem rmaAddrByte_mclkDiv (k : Fin 4) (b : Byte) (s : State) : (rmaAddrByte k b s).mclkDiv = s.mclkDiv := rfl
@[simp] theorem rmaAddrByte_vclkTimer (k : Fin 4) (b : Byte) (s : State) : (rmaAddrByte k b s).vclkTimer = s.vclkTimer := rfl
@[simp] theorem rmaAddrByte_mclkTimer (k : Fin 4) (b : Byte) (s : State) : (rmaAddrByte k b s).mclkTimer = s.mclkTimer := rfl
@[simp] theorem rmaAddrByte_dead (k : Fin 4) (b : Byte) (s : State) : (rmaAddrByte k b s).dead = s.dead := rfl
@[simp] theorem rmaAddrByte_time (k : Fin 4) (b : Byte) (s : State) : (rmaAddrByte k b s).time = s.time := rfl
@[simp] theorem rmaAddrByte_num (k : Fin 4) (b : Byte) (s : State) : (rmaAddrByte k b s).num = s.num := rfl
@[simp] theorem rmaAddrByte_den (k : Fin 4) (b : Byte) (s : State) : (rmaAddrByte k b s).den = s.den := rfl
@[simp] theorem rmaAddrByte_alarm (k : Fin 4) (b : Byte) (s : State) : (rmaAddrByte k b s).alarm = s.alarm := rfl
@[simp] theorem rmaAddrByte_line (k : Fin 4) (b : Byte) (s : State) : (rmaAddrByte k b s).line = s.line := rfl
@[simp] theorem rmaAddrByte_rmaData (k : Fin 4) (b : Byte) (s : State) : (rmaAddrByte k b s).rmaData = s.rmaData := rfl
@[simp] theorem rmaAddrByte_rmaMode (k : Fin 4) (b : Byte) (s : State) : (rmaAddrByte k b s).rmaMode = s.rmaMode := rfl
@[simp] theorem rmaAddrByte_rmaDcount (k : Fin 4) (b : Byte) (s : State) : (rmaAddrByte k b s).rmaDcount = s.rmaDcount := rfl
@[simp] theorem rmaAddrByte_refused (k : Fin 4) (b : Byte) (s : State) : (rmaAddrByte k b s).refused = s.refused := rfl
@[simp] theorem rmaAddrByte_inbox (k : Fin 4) (b : Byte) (s : State) : (rmaAddrByte k b s).inbox = s.inbox := rfl
@[simp] theorem rmaAddrByte_answers (k : Fin 4) (b : Byte) (s : State) : (rmaAddrByte k b s).answers = s.answers := rfl
@[simp] theorem rmaAddrByte_drawCount (k : Fin 4) (b : Byte) (s : State) : (rmaAddrByte k b s).drawCount = s.drawCount := rfl
@[simp] theorem rmaAddrByte_calls (k : Fin 4) (b : Byte) (s : State) : (rmaAddrByte k b s).calls = s.calls := rfl
@[simp] theorem rmaAddrByte_response (k : Fin 4) (b : Byte) (s : State) : (rmaAddrByte k b s).response = s.response := rfl
@[simp] theorem rmaAddrByte_pair (k : Fin 4) (b : Byte) (s : State) (P : PairSource) : (rmaAddrByte k b s).pair P = s.pair P := by cases P <;> simp [State.pair]
@[simp] theorem rmaAddrByte_divider (k : Fin 4) (b : Byte) (s : State) (d : Gen) : (rmaAddrByte k b s).divider d = s.divider d := by cases d <;> simp [State.divider]
@[simp] theorem rmaAddrByte_timer (k : Fin 4) (b : Byte) (s : State) (d : Gen) : (rmaAddrByte k b s).timer d = s.timer d := by cases d <;> simp [State.timer]

/-! ### A byte at a data port -/

@[simp] theorem rmaDataByte_cfg (k : Fin 4) (b : Byte) (s : State) : (rmaDataByte k b s).cfg = s.cfg := rfl
@[simp] theorem rmaDataByte_agg (k : Fin 4) (b : Byte) (s : State) : (rmaDataByte k b s).agg = s.agg := rfl
@[simp] theorem rmaDataByte_swStatus (k : Fin 4) (b : Byte) (s : State) : (rmaDataByte k b s).swStatus = s.swStatus := rfl
@[simp] theorem rmaDataByte_globalEnHw (k : Fin 4) (b : Byte) (s : State) : (rmaDataByte k b s).globalEnHw = s.globalEnHw := rfl
@[simp] theorem rmaDataByte_globalEnSw (k : Fin 4) (b : Byte) (s : State) : (rmaDataByte k b s).globalEnSw = s.globalEnSw := rfl
@[simp] theorem rmaDataByte_pmcEnable (k : Fin 4) (b : Byte) (s : State) : (rmaDataByte k b s).pmcEnable = s.pmcEnable := rfl
@[simp] theorem rmaDataByte_pme (k : Fin 4) (b : Byte) (s : State) : (rmaDataByte k b s).pme = s.pme := rfl
@[simp] theorem rmaDataByte_pfifo (k : Fin 4) (b : Byte) (s : State) : (rmaDataByte k b s).pfifo = s.pfifo := rfl
@[simp] theorem rmaDataByte_pvideo (k : Fin 4) (b : Byte) (s : State) : (rmaDataByte k b s).pvideo = s.pvideo := rfl
@[simp] theorem rmaDataByte_ptimer (k : Fin 4) (b : Byte) (s : State) : (rmaDataByte k b s).ptimer = s.ptimer := rfl
@[simp] theorem rmaDataByte_pbus (k : Fin 4) (b : Byte) (s : State) : (rmaDataByte k b s).pbus = s.pbus := rfl
@[simp] theorem rmaDataByte_gr0Pend (k : Fin 4) (b : Byte) (s : State) : (rmaDataByte k b s).gr0Pend = s.gr0Pend := rfl
@[simp] theorem rmaDataByte_gr1Pend (k : Fin 4) (b : Byte) (s : State) : (rmaDataByte k b s).gr1Pend = s.gr1Pend := rfl
@[simp] theorem rmaDataByte_pfbConfig0 (k : Fin 4) (b : Byte) (s : State) : (rmaDataByte k b s).pfbConfig0 = s.pfbConfig0 := rfl
@[simp] theorem rmaDataByte_vclkDiv (k : Fin 4) (b : Byte) (s : State) : (rmaDataByte k b s).vclkDiv = s.vclkDiv := rfl
@[simp] theorem rmaDataByte_mclkDiv (k : Fin 4) (b : Byte) (s : State) : (rmaDataByte k b s).mclkDiv = s.mclkDiv := rfl
@[simp] theorem rmaDataByte_vclkTimer (k : Fin 4) (b : Byte) (s : State) : (rmaDataByte k b s).vclkTimer = s.vclkTimer := rfl
@[simp] theorem rmaDataByte_mclkTimer (k : Fin 4) (b : Byte) (s : State) : (rmaDataByte k b s).mclkTimer = s.mclkTimer := rfl
@[simp] theorem rmaDataByte_dead (k : Fin 4) (b : Byte) (s : State) : (rmaDataByte k b s).dead = s.dead := rfl
@[simp] theorem rmaDataByte_time (k : Fin 4) (b : Byte) (s : State) : (rmaDataByte k b s).time = s.time := rfl
@[simp] theorem rmaDataByte_num (k : Fin 4) (b : Byte) (s : State) : (rmaDataByte k b s).num = s.num := rfl
@[simp] theorem rmaDataByte_den (k : Fin 4) (b : Byte) (s : State) : (rmaDataByte k b s).den = s.den := rfl
@[simp] theorem rmaDataByte_alarm (k : Fin 4) (b : Byte) (s : State) : (rmaDataByte k b s).alarm = s.alarm := rfl
@[simp] theorem rmaDataByte_line (k : Fin 4) (b : Byte) (s : State) : (rmaDataByte k b s).line = s.line := rfl
@[simp] theorem rmaDataByte_rmaAddr (k : Fin 4) (b : Byte) (s : State) : (rmaDataByte k b s).rmaAddr = s.rmaAddr := rfl
@[simp] theorem rmaDataByte_rmaMode (k : Fin 4) (b : Byte) (s : State) : (rmaDataByte k b s).rmaMode = s.rmaMode := rfl
@[simp] theorem rmaDataByte_rmaDcount (k : Fin 4) (b : Byte) (s : State) : (rmaDataByte k b s).rmaDcount = s.rmaDcount := rfl
@[simp] theorem rmaDataByte_refused (k : Fin 4) (b : Byte) (s : State) : (rmaDataByte k b s).refused = s.refused := rfl
@[simp] theorem rmaDataByte_inbox (k : Fin 4) (b : Byte) (s : State) : (rmaDataByte k b s).inbox = s.inbox := rfl
@[simp] theorem rmaDataByte_answers (k : Fin 4) (b : Byte) (s : State) : (rmaDataByte k b s).answers = s.answers := rfl
@[simp] theorem rmaDataByte_drawCount (k : Fin 4) (b : Byte) (s : State) : (rmaDataByte k b s).drawCount = s.drawCount := rfl
@[simp] theorem rmaDataByte_calls (k : Fin 4) (b : Byte) (s : State) : (rmaDataByte k b s).calls = s.calls := rfl
@[simp] theorem rmaDataByte_response (k : Fin 4) (b : Byte) (s : State) : (rmaDataByte k b s).response = s.response := rfl
@[simp] theorem rmaDataByte_pair (k : Fin 4) (b : Byte) (s : State) (P : PairSource) : (rmaDataByte k b s).pair P = s.pair P := by cases P <;> simp [State.pair]
@[simp] theorem rmaDataByte_divider (k : Fin 4) (b : Byte) (s : State) (d : Gen) : (rmaDataByte k b s).divider d = s.divider d := by cases d <;> simp [State.divider]
@[simp] theorem rmaDataByte_timer (k : Fin 4) (b : Byte) (s : State) (d : Gen) : (rmaDataByte k b s).timer d = s.timer d := by cases d <;> simp [State.timer]

/-! ### RMA_OUT -/

@[simp] theorem rmaWrite_cfg (p b : Byte) (s : State) : (rmaWrite p b s).cfg = s.cfg := by
  unfold rmaWrite
  (repeat' split) <;> simp
@[simp] theorem rmaWrite_gr0Pend (p b : Byte) (s : State) : (rmaWrite p b s).gr0Pend = s.gr0Pend := by
  unfold rmaWrite
  (repeat' split) <;> simp
@[simp] theorem rmaWrite_gr1Pend (p b : Byte) (s : State) : (rmaWrite p b s).gr1Pend = s.gr1Pend := by
  unfold rmaWrite
  (repeat' split) <;> simp
@[simp] theorem rmaWrite_dead (p b : Byte) (s : State) : (rmaWrite p b s).dead = s.dead := by
  unfold rmaWrite
  (repeat' split) <;> simp
@[simp] theorem rmaWrite_rmaMode (p b : Byte) (s : State) : (rmaWrite p b s).rmaMode = s.rmaMode := by
  unfold rmaWrite
  (repeat' split) <;> simp
@[simp] theorem rmaWrite_refused (p b : Byte) (s : State) : (rmaWrite p b s).refused = s.refused := by
  unfold rmaWrite
  (repeat' split) <;> simp
@[simp] theorem rmaWrite_inbox (p b : Byte) (s : State) : (rmaWrite p b s).inbox = s.inbox := by
  unfold rmaWrite
  (repeat' split) <;> simp
@[simp] theorem rmaWrite_answers (p b : Byte) (s : State) : (rmaWrite p b s).answers = s.answers := by
  unfold rmaWrite
  (repeat' split) <;> simp
@[simp] theorem rmaWrite_drawCount (p b : Byte) (s : State) : (rmaWrite p b s).drawCount = s.drawCount := by
  unfold rmaWrite
  (repeat' split) <;> simp
@[simp] theorem rmaWrite_response (p b : Byte) (s : State) : (rmaWrite p b s).response = s.response := by
  unfold rmaWrite
  (repeat' split) <;> simp

/-! ### Time and alarm -/

@[simp] theorem advanceTime_cfg (e : Q) (s : State) : (advanceTime e s).cfg = s.cfg := rfl
@[simp] theorem advanceTime_agg (e : Q) (s : State) : (advanceTime e s).agg = s.agg := rfl
@[simp] theorem advanceTime_swStatus (e : Q) (s : State) : (advanceTime e s).swStatus = s.swStatus := rfl
@[simp] theorem advanceTime_globalEnHw (e : Q) (s : State) : (advanceTime e s).globalEnHw = s.globalEnHw := rfl
@[simp] theorem advanceTime_globalEnSw (e : Q) (s : State) : (advanceTime e s).globalEnSw = s.globalEnSw := rfl
@[simp] theorem advanceTime_pmcEnable (e : Q) (s : State) : (advanceTime e s).pmcEnable = s.pmcEnable := rfl
@[simp] theorem advanceTime_pme (e : Q) (s : State) : (advanceTime e s).pme = s.pme := rfl
@[simp] theorem advanceTime_pfifo (e : Q) (s : State) : (advanceTime e s).pfifo = s.pfifo := rfl
@[simp] theorem advanceTime_pvideo (e : Q) (s : State) : (advanceTime e s).pvideo = s.pvideo := rfl
@[simp] theorem advanceTime_ptimer (e : Q) (s : State) : (advanceTime e s).ptimer = s.ptimer := rfl
@[simp] theorem advanceTime_pbus (e : Q) (s : State) : (advanceTime e s).pbus = s.pbus := rfl
@[simp] theorem advanceTime_gr0Pend (e : Q) (s : State) : (advanceTime e s).gr0Pend = s.gr0Pend := rfl
@[simp] theorem advanceTime_gr1Pend (e : Q) (s : State) : (advanceTime e s).gr1Pend = s.gr1Pend := rfl
@[simp] theorem advanceTime_pfbConfig0 (e : Q) (s : State) : (advanceTime e s).pfbConfig0 = s.pfbConfig0 := rfl
@[simp] theorem advanceTime_vclkDiv (e : Q) (s : State) : (advanceTime e s).vclkDiv = s.vclkDiv := rfl
@[simp] theorem advanceTime_mclkDiv (e : Q) (s : State) : (advanceTime e s).mclkDiv = s.mclkDiv := rfl
@[simp] theorem advanceTime_vclkTimer (e : Q) (s : State) : (advanceTime e s).vclkTimer = s.vclkTimer := rfl
@[simp] theorem advanceTime_mclkTimer (e : Q) (s : State) : (advanceTime e s).mclkTimer = s.mclkTimer := rfl
@[simp] theorem advanceTime_dead (e : Q) (s : State) : (advanceTime e s).dead = s.dead := rfl
@[simp] theorem advanceTime_num (e : Q) (s : State) : (advanceTime e s).num = s.num := rfl
@[simp] theorem advanceTime_den (e : Q) (s : State) : (advanceTime e s).den = s.den := rfl
@[simp] theorem advanceTime_alarm (e : Q) (s : State) : (advanceTime e s).alarm = s.alarm := rfl
@[simp] theorem advanceTime_line (e : Q) (s : State) : (advanceTime e s).line = s.line := rfl
@[simp] theorem advanceTime_rmaAddr (e : Q) (s : State) : (advanceTime e s).rmaAddr = s.rmaAddr := rfl
@[simp] theorem advanceTime_rmaData (e : Q) (s : State) : (advanceTime e s).rmaData = s.rmaData := rfl
@[simp] theorem advanceTime_rmaMode (e : Q) (s : State) : (advanceTime e s).rmaMode = s.rmaMode := rfl
@[simp] theorem advanceTime_rmaSave (e : Q) (s : State) : (advanceTime e s).rmaSave = s.rmaSave := rfl
@[simp] theorem advanceTime_rmaDcount (e : Q) (s : State) : (advanceTime e s).rmaDcount = s.rmaDcount := rfl
@[simp] theorem advanceTime_refused (e : Q) (s : State) : (advanceTime e s).refused = s.refused := rfl
@[simp] theorem advanceTime_inbox (e : Q) (s : State) : (advanceTime e s).inbox = s.inbox := rfl
@[simp] theorem advanceTime_answers (e : Q) (s : State) : (advanceTime e s).answers = s.answers := rfl
@[simp] theorem advanceTime_drawCount (e : Q) (s : State) : (advanceTime e s).drawCount = s.drawCount := rfl
@[simp] theorem advanceTime_calls (e : Q) (s : State) : (advanceTime e s).calls = s.calls := rfl
@[simp] theorem advanceTime_response (e : Q) (s : State) : (advanceTime e s).response = s.response := rfl
@[simp] theorem advanceTime_pair (e : Q) (s : State) (P : PairSource) : (advanceTime e s).pair P = s.pair P := by cases P <;> simp [State.pair]
@[simp] theorem advanceTime_divider (e : Q) (s : State) (d : Gen) : (advanceTime e s).divider d = s.divider d := by cases d <;> simp [State.divider]
@[simp] theorem advanceTime_timer (e : Q) (s : State) (d : Gen) : (advanceTime e s).timer d = s.timer d := by cases d <;> simp [State.timer]

/-! ### TICK_MCLK -/

@[simp] theorem tickMclk_cfg (e : Q) (s : State) : (tickMclk e s).cfg = s.cfg := by unfold tickMclk evaluateAlarm; (repeat' split) <;> simp
@[simp] theorem tickMclk_swStatus (e : Q) (s : State) : (tickMclk e s).swStatus = s.swStatus := by unfold tickMclk evaluateAlarm; (repeat' split) <;> simp
@[simp] theorem tickMclk_globalEnHw (e : Q) (s : State) : (tickMclk e s).globalEnHw = s.globalEnHw := by unfold tickMclk evaluateAlarm; (repeat' split) <;> simp
@[simp] theorem tickMclk_globalEnSw (e : Q) (s : State) : (tickMclk e s).globalEnSw = s.globalEnSw := by unfold tickMclk evaluateAlarm; (repeat' split) <;> simp
@[simp] theorem tickMclk_pmcEnable (e : Q) (s : State) : (tickMclk e s).pmcEnable = s.pmcEnable := by unfold tickMclk evaluateAlarm; (repeat' split) <;> simp
@[simp] theorem tickMclk_gr0Pend (e : Q) (s : State) : (tickMclk e s).gr0Pend = s.gr0Pend := by unfold tickMclk evaluateAlarm; (repeat' split) <;> simp
@[simp] theorem tickMclk_gr1Pend (e : Q) (s : State) : (tickMclk e s).gr1Pend = s.gr1Pend := by unfold tickMclk evaluateAlarm; (repeat' split) <;> simp
@[simp] theorem tickMclk_pfbConfig0 (e : Q) (s : State) : (tickMclk e s).pfbConfig0 = s.pfbConfig0 := by unfold tickMclk evaluateAlarm; (repeat' split) <;> simp
@[simp] theorem tickMclk_vclkDiv (e : Q) (s : State) : (tickMclk e s).vclkDiv = s.vclkDiv := by unfold tickMclk evaluateAlarm; (repeat' split) <;> simp
@[simp] theorem tickMclk_mclkDiv (e : Q) (s : State) : (tickMclk e s).mclkDiv = s.mclkDiv := by unfold tickMclk evaluateAlarm; (repeat' split) <;> simp
@[simp] theorem tickMclk_vclkTimer (e : Q) (s : State) : (tickMclk e s).vclkTimer = s.vclkTimer := by unfold tickMclk evaluateAlarm; (repeat' split) <;> simp
@[simp] theorem tickMclk_mclkTimer (e : Q) (s : State) : (tickMclk e s).mclkTimer = s.mclkTimer := by unfold tickMclk evaluateAlarm; (repeat' split) <;> simp
@[simp] theorem tickMclk_dead (e : Q) (s : State) : (tickMclk e s).dead = s.dead := by unfold tickMclk evaluateAlarm; (repeat' split) <;> simp
@[simp] theorem tickMclk_num (e : Q) (s : State) : (tickMclk e s).num = s.num := by unfold tickMclk evaluateAlarm; (repeat' split) <;> simp
@[simp] theorem tickMclk_den (e : Q) (s : State) : (tickMclk e s).den = s.den := by unfold tickMclk evaluateAlarm; (repeat' split) <;> simp
@[simp] theorem tickMclk_alarm (e : Q) (s : State) : (tickMclk e s).alarm = s.alarm := by unfold tickMclk evaluateAlarm; (repeat' split) <;> simp
@[simp] theorem tickMclk_rmaAddr (e : Q) (s : State) : (tickMclk e s).rmaAddr = s.rmaAddr := by unfold tickMclk evaluateAlarm; (repeat' split) <;> simp
@[simp] theorem tickMclk_rmaData (e : Q) (s : State) : (tickMclk e s).rmaData = s.rmaData := by unfold tickMclk evaluateAlarm; (repeat' split) <;> simp
@[simp] theorem tickMclk_rmaMode (e : Q) (s : State) : (tickMclk e s).rmaMode = s.rmaMode := by unfold tickMclk evaluateAlarm; (repeat' split) <;> simp
@[simp] theorem tickMclk_rmaSave (e : Q) (s : State) : (tickMclk e s).rmaSave = s.rmaSave := by unfold tickMclk evaluateAlarm; (repeat' split) <;> simp
@[simp] theorem tickMclk_rmaDcount (e : Q) (s : State) : (tickMclk e s).rmaDcount = s.rmaDcount := by unfold tickMclk evaluateAlarm; (repeat' split) <;> simp
@[simp] theorem tickMclk_refused (e : Q) (s : State) : (tickMclk e s).refused = s.refused := by unfold tickMclk evaluateAlarm; (repeat' split) <;> simp
@[simp] theorem tickMclk_inbox (e : Q) (s : State) : (tickMclk e s).inbox = s.inbox := by unfold tickMclk evaluateAlarm; (repeat' split) <;> simp
@[simp] theorem tickMclk_answers (e : Q) (s : State) : (tickMclk e s).answers = s.answers := by unfold tickMclk evaluateAlarm; (repeat' split) <;> simp
@[simp] theorem tickMclk_drawCount (e : Q) (s : State) : (tickMclk e s).drawCount = s.drawCount := by unfold tickMclk evaluateAlarm; (repeat' split) <;> simp
@[simp] theorem tickMclk_response (e : Q) (s : State) : (tickMclk e s).response = s.response := by unfold tickMclk evaluateAlarm; (repeat' split) <;> simp
@[simp] theorem tickMclk_divider (e : Q) (s : State) (d : Gen) : (tickMclk e s).divider d = s.divider d := by cases d <;> simp [State.divider]
@[simp] theorem tickMclk_timer (e : Q) (s : State) (d : Gen) : (tickMclk e s).timer d = s.timer d := by cases d <;> simp [State.timer]


end Sys2Proof.Machine
end

