-- ==== Sys2Proof/Laws/Lanes.lean ====
section
/-! SUPPORT. Lanes bit by bit: what `lane`, `setLane`, `insert8` and `insert16` hold at each bit (R46, R89, R90). -/

namespace Sys2Proof.Machine

/-- Aligning twice is aligning once (R50). -/
@[simp] theorem alignAddr_alignAddr (a : Addr) : alignAddr (alignAddr a) = alignAddr a := by
  simp [alignAddr, BitVec.and_assoc]

/-- The lane shift of an address is eight times its offset in the word (R84). -/
theorem laneShift_eq (a : Addr) : laneShift a = 8 * (a.toNat % 4) := by
  simp only [laneShift, BitVec.toNat_and]
  exact congrArg (8 * ·) (Nat.and_two_pow_sub_one_eq_mod a.toNat 2)

theorem lane_getLsbD (w : Word) (k : Nat) {i : Nat} (hi : i < 8) : (lane w k).getLsbD i = w.getLsbD (8 * k + i) := by
  simp [lane, hi]

/-- Lanes of a masked word. -/
theorem lane_and (w m : Word) (k : Nat) : lane (w &&& m) k = lane w k &&& lane m k := by
  apply BitVec.eq_of_getLsbD_eq
  intro i hi
  simp only [lane_getLsbD _ _ hi, BitVec.getLsbD_and]

/-- Replacing the bits from 8k upward by a byte, bit by bit. -/
theorem setLane_getLsbD (w : Word) (k : Nat) (b : Byte) {j : Nat} (hj : j < 32) :
    (setLane w k b).getLsbD j = if j / 8 = k then b.getLsbD (j % 8) else w.getLsbD j := by
  have mask : ∀ n < 32, (255 : Word).getLsbD n = decide (n < 8) := by decide
  simp only [setLane, BitVec.getLsbD_or, BitVec.getLsbD_and, BitVec.getLsbD_not, BitVec.getLsbD_shiftLeft,
    BitVec.getLsbD_setWidth, hj, mask _ (show j - 8 * k < 32 by omega)]
  by_cases below : j < 8 * k
  · have : j / 8 ≠ k := by omega
    simp [below, this]
  · by_cases inside : j - 8 * k < 8
    · simp [below, inside, show j / 8 = k by omega, show j % 8 = j - 8 * k by omega, show j - 8 * k < 32 by omega]
    · have above : b.getLsbD (j - 8 * k) = false := BitVec.getLsbD_of_ge _ _ (by omega)
      simp [below, inside, above, show j / 8 ≠ k by omega]

/-- An 8-bit insertion at an address replaces the lane the address selects (R89). -/
theorem insert8_eq_setLane (w : Word) (a : Addr) (b : Byte) : insert8 w a b = setLane w (a.toNat % 4) b := by
  rw [insert8, setLane, laneShift_eq]

/-- A 16-bit insertion at an address, bit by bit: lane 4 does not exist (R90). -/
theorem insert16_getLsbD (w : Word) (a : Addr) (h : Half) {j : Nat} (hj : j < 32) :
    (insert16 w a h).getLsbD j =
      if j / 8 = a.toNat % 4 then h.getLsbD (j % 8)
      else if j / 8 = a.toNat % 4 + 1 then h.getLsbD (8 + j % 8) else w.getLsbD j := by
  have mask : ∀ n < 32, (0xFFFF : Word).getLsbD n = decide (n < 16) := by decide
  have hk : a.toNat % 4 < 4 := Nat.mod_lt _ (by decide)
  rw [insert16, laneShift_eq]
  generalize a.toNat % 4 = k at hk
  simp only [BitVec.getLsbD_or, BitVec.getLsbD_and, BitVec.getLsbD_not, BitVec.getLsbD_shiftLeft,
    BitVec.getLsbD_setWidth, hj, mask _ (show j - 8 * k < 32 by omega)]
  by_cases below : j < 8 * k
  · simp [below, show j / 8 ≠ k by omega, show j / 8 ≠ k + 1 by omega]
  · by_cases first : j - 8 * k < 8
    · simp [below, show j - 8 * k < 16 by omega, show j / 8 = k by omega, show j % 8 = j - 8 * k by omega,
        show j - 8 * k < 32 by omega]
    · by_cases second : j - 8 * k < 16
      · simp [below, second, show j / 8 = k + 1 by omega, show 8 + j % 8 = j - 8 * k by omega,
          show j - 8 * k < 32 by omega]
      · have above : h.getLsbD (j - 8 * k) = false := BitVec.getLsbD_of_ge _ _ (by omega)
        simp [below, second, above, show j / 8 ≠ k by omega, show j / 8 ≠ k + 1 by omega]

end Sys2Proof.Machine
end

