-- ==== Sys2Proof/Laws/PerInstr.lean ====
section
/-! SUPPORT. One statement per transaction about its record: the family CommandCode. -/

namespace Sys2Proof.Laws.CommandCode

/-- The record of a transaction carries its command code, one of R62's, in bits 7:0, and no bit that the command ignores is
set (R60, R62, R65). -/
def Statement (i : Instr) : Prop :=
  (encode i).packed.extractLsb' 0 8 = commandCode i ∧ commandCode i ∈ listedCommands ∧
    (encode i).packed &&& ~~~usedBits i = 0

/-- The first two parts hold of any record put together by `packT`; the third is a question about the two other fields. -/
theorem of_fields (i : Instr) (ua ud : Word) (ha : addrField i &&& ~~~ua = 0) (hd : dataField i &&& ~~~ud = 0)
    (hc : commandCode i ∈ listedCommands := by simp only [commandCode]; decide)
    (hu : usedBits i = packT 0xFF ua ud := by simp only [usedBits]; decide) :
    Statement i := by
  refine ⟨Txn.cmd_packT _ _ _ 0, hc, ?_⟩
  apply BitVec.eq_of_getLsbD_eq
  intro n hn
  have hAddr := fun k => congrArg (fun w : Word => w.getLsbD k) ha
  have hData := fun k => congrArg (fun w : Word => w.getLsbD k) hd
  have mask : ∀ k < 8, (0xFF : Byte).getLsbD k = true := by decide
  simp only [encode, hu, BitVec.getLsbD_and, BitVec.getLsbD_not, packT_getLsbD _ _ _ hn, hn, decide_true,
    Bool.true_and] at hAddr hData ⊢
  split_ifs with h8 h40
  · simp only [mask n h8, Bool.not_true, Bool.and_false]; exact BitVec.getLsbD_zero.symm
  · simpa [show n - 8 < 32 by omega] using hAddr (n - 8)
  · simpa [show n - 40 < 32 by omega] using hData (n - 40)

/-- A zero-extended field sets no bit above its width. -/
theorem setWidth_and_not {n : Nat} (w : BitVec n) (m : Word) (h : ∀ k < 32, m.getLsbD k = decide (k < n)) :
    w.setWidth 32 &&& ~~~m = 0 := by
  apply BitVec.eq_of_getLsbD_eq
  intro k hk
  by_cases hn : k < n
  · simp [hk, h k hk, hn]
  · simp [hk, BitVec.getLsbD_of_ge w k (by omega)]

theorem mmioRd8 (addr : Addr) : Statement (.mmioRd8 addr) :=
  of_fields _ 0xFFFFFF 0 (setWidth_and_not _ _ (by decide)) BitVec.zero_and

theorem mmioRd16 (addr : Addr) : Statement (.mmioRd16 addr) :=
  of_fields _ 0xFFFFFF 0 (setWidth_and_not _ _ (by decide)) BitVec.zero_and

theorem mmioRd32 (addr : Addr) : Statement (.mmioRd32 addr) :=
  of_fields _ 0xFFFFFF 0 (setWidth_and_not _ _ (by decide)) BitVec.zero_and

theorem mmioWr8 (addr : Addr) (b : Byte) : Statement (.mmioWr8 addr b) :=
  of_fields _ 0xFFFFFF 0xFF (setWidth_and_not _ _ (by decide)) (setWidth_and_not _ _ (by decide))

theorem mmioWr16 (addr : Addr) (h : Half) : Statement (.mmioWr16 addr h) :=
  of_fields _ 0xFFFFFF 0xFFFF (setWidth_and_not _ _ (by decide)) (setWidth_and_not _ _ (by decide))

theorem mmioWr32 (addr : Addr) (v : Word) : Statement (.mmioWr32 addr v) :=
  of_fields _ 0xFFFFFF 0xFFFFFFFF (setWidth_and_not _ _ (by decide)) (by simp)

theorem rmaIn (port : Byte) : Statement (.rmaIn port) :=
  of_fields _ 0xFF 0 (setWidth_and_not _ _ (by decide)) BitVec.zero_and

theorem rmaOut (port : Byte) (b : Byte) : Statement (.rmaOut port b) :=
  of_fields _ 0xFF 0xFF (setWidth_and_not _ _ (by decide)) (setWidth_and_not _ _ (by decide))

theorem rmaModeWr (b : Byte) : Statement (.rmaModeWr b) :=
  of_fields _ 0 0xFF BitVec.zero_and (setWidth_and_not _ _ (by decide))

theorem tickVclk (elapsedUs : Q) : Statement (.tickVclk elapsedUs) :=
  of_fields _ 0 0 BitVec.zero_and BitVec.zero_and

theorem tickMclk (elapsedUs : Q) : Statement (.tickMclk elapsedUs) :=
  of_fields _ 0 0 BitVec.zero_and BitVec.zero_and

theorem raiseIntr (src : PairSource) (mask : Word) : Statement (.raiseIntr src mask) :=
  of_fields _ 0x7 0xFFFFFFFF (setWidth_and_not _ _ (by decide)) (by simp)

theorem grPending (g0 g1 : Bool) : Statement (.grPending g0 g1) :=
  of_fields _ 0x3 0 (setWidth_and_not _ _ (by decide)) BitVec.zero_and

theorem reset : Statement .reset :=
  of_fields _ 0 0 BitVec.zero_and BitVec.zero_and

theorem teardown : Statement .teardown :=
  of_fields _ 0 0 BitVec.zero_and BitVec.zero_and

end Sys2Proof.Laws.CommandCode
end

