-- ==== Sys2Proof/Laws/Respond.lean ====
section
/-! SUPPORT. The response of the last transaction is read by nothing: setting it commutes with every operation on the
registers and with the arbiter. -/

namespace Sys2Proof.Machine

theorem recompute_respond (b : Bool) (s : State) (x : Response) :
    recompute b (s.respond x) = (recompute b s).respond x := by
  rw [recompute_eq, recompute_eq]; rfl

theorem State.setPair_respond (s : State) (S : PairSource) (p : Pair) (x : Response) :
    (s.respond x).setPair S p = (s.setPair S p).respond x := by cases S <;> rfl

theorem State.setDivider_respond (s : State) (g : Gen) (d : Divider) (x : Response) :
    (s.respond x).setDivider g d = (s.setDivider g d).respond x := by cases g <;> rfl

theorem State.setTimer_respond (s : State) (g : Gen) (t : HostTimer) (x : Response) :
    (s.respond x).setTimer g t = (s.setTimer g t).respond x := by cases g <;> rfl

theorem State.drive_respond (s : State) (l : LineAction) (x : Response) :
    (s.respond x).drive l = (s.drive l).respond x := by cases l <;> rfl

theorem programTimer_respond (g : Gen) (s : State) (x : Response) :
    programTimer g (s.respond x) = (programTimer g s).respond x := by
  cases g <;> (simp only [programTimer, State.respond_timer]; split <;> rfl)

theorem State.ask_respond (s : State) (c : Call) (x : Response) :
    (s.respond x).ask c = ((s.ask c).1, (s.ask c).2.respond x) := by
  simp only [State.ask, State.answer, State.afterAnswer, State.emit_answers, State.respond_answers]
  cases s.answers <;> rfl

theorem readReg_respond (r : Reg) (s : State) (x : Response) :
    readReg r (s.respond x) = ((readReg r s).1, (readReg r s).2.respond x) := by
  cases r
  case pmcIntr0 => simp only [readReg, recompute_respond, State.respond_agg]
  case intr S => cases S <;> rfl
  case intrEn S => cases S <;> rfl
  case coeff g => cases g <;> rfl
  all_goals rfl

theorem writeReg_respond (r : Reg) (v : Word) (s : State) (x : Response) :
    writeReg r v (s.respond x) = (writeReg r v s).respond x := by
  cases r
  case pmcIntr0 =>
    simp only [writeReg, writePmcIntr, State.respond_cfg]
    split
    · exact recompute_respond true { s with swStatus := v.getLsbD 31 } x
    · rfl
  case pmcIntrEn0 =>
    exact recompute_respond true
      { s with
        globalEnHw := v.getLsbD s.cfg.globalEnHwBit.val
        globalEnSw := v.getLsbD s.cfg.globalEnSwBit.val } x
  case intr S =>
    have h : ((s.respond x).setStatus S (((s.respond x).pair S).status &&& ~~~v)).drive .deassert =
        ((s.setStatus S ((s.pair S).status &&& ~~~v)).drive .deassert).respond x := by cases S <;> rfl
    simp only [writeReg, w1c, h, recompute_respond]
  case intrEn S =>
    have h : (s.respond x).setEnable S v = (s.setEnable S v).respond x := by cases S <;> rfl
    simp only [writeReg, h, recompute_respond]
  case coeff g => simp only [writeReg, writeCoeff, State.setDivider_respond, programTimer_respond]
  all_goals rfl

theorem route_respond (s : State) (a : Addr) (x : Response) : route (s.respond x) a = route s a := rfl

theorem read32_respond (a : Addr) (s : State) (x : Response) :
    read32 a (s.respond x) = ((read32 a s).1, (read32 a s).2.respond x) := by
  simp only [read32, route_respond]
  split <;> first | rfl | exact State.ask_respond _ _ _ | exact readReg_respond _ _ _

theorem write32_respond (a : Addr) (v : Word) (s : State) (x : Response) :
    write32 a v (s.respond x) = (write32 a v s).respond x := by
  simp only [write32, route_respond]
  split <;> first | rfl | exact writeReg_respond _ _ _ _

end Sys2Proof.Machine
end

