-- ==== Sys2Proof/Tests/Slice0.lean ====
section
/-! SUPPORT. Tests: records written out from 30_encoding.md, ill-formed terms refused, single steps with the results that
95_test_vectors.md gives, and a named witness for the hypotheses of every statement. -/

namespace Sys2Proof.Tests

open Sys2Proof.Machine

/-! ## The test configuration of 95_test_vectors.md §0 -/

/-- The defaults, with test values for the four OPEN parameters (95 §0). -/
def testConfig : Config :=
  { defaultConfig with
    fixQuotient := ⟨0, 0⟩, bootId := 0x00030110, straps := 0, rmaSignature := 0x2B16D065 }

/-- The reset state under the test configuration. -/
def start : State := State.atReset testConfig

/-- The transaction completes and `p` holds of the state it leaves. -/
def after (i : Instr) (s : State) (p : State → Bool) : Bool :=
  match exec i s with
  | .next t => p t
  | .fault _ => false
  | .refused _ => false

/-- The step completes and `p` holds of the state it leaves. -/
def stepped (s : State) (p : State → Bool) : Bool :=
  match step s with
  | .next t => p t
  | .fault _ => false
  | .refused _ => false

/-- The transaction is refused for the reason `why`, and `p` holds of the state the refusal leaves. -/
def refusedAs (why : Illegal) (s : State) (p : State → Bool) : Bool :=
  match step s with
  | .refused (.illegalTransaction e marked) => e == why && p marked
  | _ => false

/-- The memory clock at 1,000,000 Hz with its timer running, ALARM out of reach (95 §2.5). -/
def ticking : State :=
  { start with mclkDiv := ⟨27, 2, 0⟩, mclkTimer := ⟨true, true, 1⟩, alarm := 0xFFFFFFFF }

/-- The bus source pending with the line high (95 §2.3). -/
def busPending : State := { start with pbus := ⟨1, 1⟩, agg := 0x10000000, line := true }

/-! ## Records: each constructor's word, from R60 to R63 and 95 -/

theorem test_decode_mmioRd8 : decode ⟨0x000000000000000100, 0⟩ = .ok (.mmioRd8 0x000001) := by decide
theorem test_decode_mmioRd16 : decode ⟨0x00000000000C03FF01, 0⟩ = .ok (.mmioRd16 0x0C03FF) := by decide
theorem test_decode_mmioRd32 : decode ⟨0x000000000010020202, 0⟩ = .ok (.mmioRd32 0x100202) := by decide
/-- V-CMP-3, V-CMP-4: ADDR[31:24] and DATA[31:8] are ignored. -/
theorem test_decode_mmioWr8 : decode ⟨0xFFFFFF5AFF10020104, 0⟩ = .ok (.mmioWr8 0x100201 0x5A) := by decide
theorem test_decode_mmioWr16 : decode ⟨0x000000010000110005, 0⟩ = .ok (.mmioWr16 0x001100 0x0001) := by decide
theorem test_decode_mmioWr32 : decode ⟨0x0000021B0068050406, 0⟩ = .ok (.mmioWr32 0x680504 0x21B) := by decide
theorem test_decode_rmaIn : decode ⟨0x000000000000000B10, 0⟩ = .ok (.rmaIn 0x0B) := by decide
theorem test_decode_rmaOut : decode ⟨0x000000CA0000000B11, 0⟩ = .ok (.rmaOut 0x0B 0xCA) := by decide
theorem test_decode_rmaModeWr : decode ⟨0x000000030000000012, 0⟩ = .ok (.rmaModeWr 0x03) := by decide
theorem test_decode_tickVclk : decode ⟨0x000000000000000020, 100⟩ = .ok (.tickVclk 100) := by decide
theorem test_decode_tickMclk : decode ⟨0x000000000000000021, 7 / 3⟩ = .ok (.tickMclk (7 / 3)) := by decide +kernel
theorem test_decode_raiseIntr : decode ⟨0x000000010000000430, 0⟩ = .ok (.raiseIntr .pbus 1) := by decide
theorem test_decode_grPending : decode ⟨0x000000000000000231, 0⟩ = .ok (.grPending false true) := by decide
theorem test_decode_reset : decode ⟨0x0000000000000000F0, 0⟩ = .ok .reset := by decide
theorem test_decode_teardown : decode ⟨0x0000000000000000F1, 0⟩ = .ok .teardown := by decide
/-- V-HIN-1. -/
theorem test_decode_raise_code5 : decode ⟨0x000000010000000530, 0⟩ = .error (.raiseSource 5) := by decide
/-- V-HIN-2: the MMIO width code 11. -/
theorem test_decode_width3 : decode ⟨0x000000000000000003, 0⟩ = .error (.unlistedCommand 0x03) := by decide
/-- V-HIN-3. -/
theorem test_decode_tick_zero : decode ⟨0x000000000000000021, 0⟩ = .error .nonPositiveElapsed := by decide
theorem test_decodeTableWord : decodeTableWord 72 0x000000000000000020 = some (.tickVclk 1) := by decide

/-! ## Ill-formed terms (R11, R35, R64) -/

theorem test_wellFormed_default : testConfig.wellFormed = true := by decide
theorem test_illFormed_tick : (Instr.tickMclk 0).wellFormed = false := by decide
theorem test_illFormed_tick_negative : (Instr.tickVclk (-1)).wellFormed = false := by decide
/-- R70, R154: a duplicated range entry. -/
theorem test_illFormed_overlap :
    Config.wellFormed { testConfig with ranges := defaultRanges ++ [⟨0x100000, 0x100FFF, .sub .pfb⟩] } = false := by
  decide
theorem test_illFormed_start_above_end :
    Config.wellFormed { testConfig with ranges := defaultRanges ++ [⟨0x700001, 0x700000, .sub .pfb⟩] } = false := by
  decide
theorem test_illFormed_beyond_window :
    Config.wellFormed { testConfig with ranges := defaultRanges ++ [⟨0x700000, 0x1000000, .sub .pfb⟩] } = false := by
  decide
theorem test_illFormed_shared_offset :
    Config.wellFormed { testConfig with regmap := defaultRegmap ++ [⟨.pmcEnable, 0x000100⟩] } = false := by
  decide
theorem test_illFormed_misaligned_offset :
    Config.wellFormed { testConfig with regmap := defaultRegmap ++ [⟨.pmcEnable, 0x000302⟩] } = false := by
  decide
theorem test_illFormed_offset_out_of_range :
    Config.wellFormed { testConfig with regmap := defaultRegmap ++ [⟨.pmcEnable, 0x001200⟩] } = false := by
  decide
/-- Log entry 21: a register at a second offset is accepted. -/
theorem test_wellFormed_second_offset :
    Config.wellFormed { testConfig with regmap := defaultRegmap ++ [⟨.pmcEnable, 0x000300⟩] } = true := by decide
/-- Log entry 22: two ranges bound to PTIMER, and one of its registers in the second, are accepted. -/
theorem test_wellFormed_second_range :
    Config.wellFormed { testConfig with
      ranges := defaultRanges ++ [⟨0x00A000, 0x00AFFF, .sub .ptimer⟩]
      regmap := defaultRegmap.map fun e => if e.reg = .ptimerAlarm0 then ⟨e.reg, 0x00A000⟩ else e } = true := by decide
theorem test_illFormed_aggBit :
    Config.wellFormed { testConfig with aggBits := { defaultAggBits with bus := 31 } } = false := by decide
theorem test_illFormed_missing_register :
    Config.wellFormed { testConfig with regmap := defaultRegmap.tail } = false := by decide
theorem test_illFormed_crystal : Config.wellFormed { testConfig with crystalHz := 0 } = false := by decide
theorem test_illFormed_denominator : Config.wellFormed { testConfig with denReset := 0 } = false := by decide

/-! ## Single steps, with the results of 95_test_vectors.md -/

/-- E5: the lane of the address. -/
theorem test_rd8_lane :
    after (.mmioRd8 0x100203) { start with pfbConfig0 := 0x12345678 } (fun t => t.response == .data 0x12) = true := by
  decide
/-- V-CMP-7: the VGA window. -/
theorem test_rd8_vga :
    after (.mmioRd8 0x681000) { start with answers := [0x7E] }
      (fun t => t.response == .data 0x7E && t.calls == [.vgaIn 0] && t.answers == []) = true := by decide
/-- E5: a 16-bit read at offset 3 reaches lane 3 only. -/
theorem test_rd16_top_lane :
    after (.mmioRd16 0x100203) { start with pfbConfig0 := 0x12345678 } (fun t => t.response == .data 0x0012) = true := by
  decide
/-- V-CMP-5: the port number wraps within 10 bits. -/
theorem test_rd16_vga :
    after (.mmioRd16 0x0C03FF) { start with answers := [0x11, 0x22] }
      (fun t => t.response == .data 0x2211 && t.calls == [.vgaIn 0x3FF, .vgaIn 0]) = true := by decide
/-- V-CMP-1: no rotation. -/
theorem test_rd32_misaligned :
    after (.mmioRd32 0x100202) { start with pfbConfig0 := 0x12345678 } (fun t => t.response == .data 0x12345678) = true := by
  decide
/-- V-AGG-8: reading the aggregate with both gates closed drives the line low. -/
theorem test_rd32_aggregate :
    after (.mmioRd32 0x000100) { start with globalEnHw := false, globalEnSw := false, pbus := ⟨1, 1⟩ }
      (fun t => t.response == .data 0x10000000 && t.calls == [.irqDeassert]) = true := by decide
/-- V-CMP-9's hazard at 8 bits (E6): the other status bits are cleared too. -/
theorem test_wr8_status :
    after (.mmioWr8 0x001100 0x01) { start with pbus := ⟨0x101, 0⟩ } (fun t => t.pbus.status == 0) = true := by
  decide
/-- V-CMP-11. -/
theorem test_wr8_denominator : after (.mmioWr8 0x009210 0x00) start (fun t => t.den == 1) = true := by decide
/-- E6: h[15:8] is dropped at offset 3. -/
theorem test_wr16_top_lane :
    after (.mmioWr16 0x100203 0xBEEF) { start with pfbConfig0 := 0x12345678 }
      (fun t => t.pfbConfig0 == 0xEF345678) = true := by decide
/-- E6: the two middle lanes. -/
theorem test_wr16_middle :
    after (.mmioWr16 0x100201 0xBEEF) { start with pfbConfig0 := 0x12345678 }
      (fun t => t.pfbConfig0 == 0x12BEEF78) = true := by decide
/-- V-CLK-5 and V-CLK-9: bit 19 is ignored; the first write creates and starts the timer. -/
theorem test_wr32_divider :
    after (.mmioWr32 0x680504 0x000CC807) start (fun t =>
      t.mclkDiv == ⟨7, 200, 4⟩ &&
        t.calls == [.timerCreate .mclk (28 / 675), .timerStart .mclk]) = true := by decide +kernel
/-- E3, second part: the line pulses low and is asserted again for the timer. -/
theorem test_wr32_status :
    after (.mmioWr32 0x001100 0x5) { start with pbus := ⟨5, 5⟩, ptimer := ⟨1, 1⟩, line := true }
      (fun t => t.pbus.status == 0 && t.agg == 0x00100000 && t.line &&
        t.calls == [.irqDeassert, .irqAssert]) = true := by decide
/-- V-RMA-1. -/
theorem test_rmaIn_signature : after (.rmaIn 1) start (fun t => t.response == .byte 0xD0) = true := by decide
/-- V-RMA-8: the first byte above the aperture. -/
theorem test_rmaIn_vram :
    after (.rmaIn 9) { start with rmaAddr := 0x00FFFFFF, answers := [0x33] }
      (fun t => t.response == .byte 0x33 && t.calls == [.vramRead8 0]) = true := by decide
/-- V-RMA-10: VRAM write and wrap of the auto-increment. -/
theorem test_rmaOut_vram :
    after (.rmaOut 0x0B 0) { start with rmaMode := 3, rmaAddr := 0xFFFFFFFC }
      (fun t => t.rmaAddr == 0 && t.calls == [.vramWrite32 0xFEFFFFFC 0]) = true := by decide
/-- V-RMA-15, the fourth write: only lane 3 was ever written. -/
theorem test_rmaOut_fourth :
    after (.rmaOut 0x0B 4)
      { start with cfg := { testConfig with rmaTrigger := .fourthByte }, rmaDcount := 3, rmaData := 0x03000000,
                   rmaAddr := 0x00100200 }
      (fun t => t.rmaDcount == 0 && t.pfbConfig0 == 0x04000000) = true := by decide
theorem test_rmaModeWr : after (.rmaModeWr 0x03) start (fun t => t.rmaMode == 3) = true := by decide
/-- 95 §2.5: `tick vclk, 100` leaves every state element unchanged. -/
theorem test_tickVclk : after (.tickVclk 100) ticking (fun t => t == ticking) = true := by decide
/-- V-TCK-2. -/
theorem test_tickMclk_floor :
    after (.tickMclk 3) { ticking with num := 3, den := 2 } (fun t => t.time == 4 && t.calls == []) = true := by
  decide +kernel
/-- E4: the alarm. -/
theorem test_tickMclk_alarm :
    after (.tickMclk 1) { ticking with alarm := 100, time := 99, ptimer := ⟨0, 1⟩ }
      (fun t => t.time == 100 && t.ptimer.status == 1 && t.agg == 0x00100000 && t.calls == [.irqAssert]) = true := by
  decide +kernel
/-- V-HIN-6: raised despite the gate. -/
theorem test_raiseIntr_gated :
    after (.raiseIntr .pfifo 1) { start with pfifo := ⟨0, 1⟩ }
      (fun t => t.pfifo.status == 1 && t.agg == 0x100 && t.calls == [.irqAssert]) = true := by decide
/-- V-AGG-5: the selected gate is closed under HOLD. -/
theorem test_raiseIntr_held :
    after (.raiseIntr .pbus 0) { start with globalEnSw := false, swStatus := true }
      (fun t => t.agg == 0x80000000 && t.calls == [] && !t.line) = true := by decide
/-- V-HIN-4. -/
theorem test_grPending :
    after (.grPending true false) start (fun t => t.gr0Pend && t.agg == 0x1000 && t.calls == [.irqAssert]) = true := by
  decide
/-- V-HIN-9. -/
theorem test_reset :
    after .reset { start with dead := true, line := true } (fun t => !t.dead && !t.line && t.calls == [.irqDeassert]) = true := by
  decide
/-- V-CLK-13. -/
theorem test_reset_timers :
    after .reset { start with cfg := { testConfig with timersAtReset := true } } (fun t =>
      t.calls == [.irqDeassert, .timerCreate .vclk (2 / 27), .timerStart .vclk,
        .timerCreate .mclk (2 / 27), .timerStart .mclk]) = true := by decide +kernel
/-- V-HIN-7. -/
theorem test_teardown : after .teardown start (fun t => t.dead && t.calls == []) = true := by decide
/-- R119: a created timer is destroyed and the line stays. -/
theorem test_teardown_timer :
    after .teardown { ticking with line := true }
      (fun t => t.line && !t.mclkTimer.running && t.calls == [.timerDestroy .mclk]) = true := by decide

/-! ## Witnesses: concrete states and operands that meet the hypotheses of the statements -/

theorem witness_EncodeThenDecode : (Instr.tickMclk (7 / 3)).wellFormed = true := by decide +kernel
theorem witness_DecodedRecordIsCanonical :
    decode ⟨0xFFFFFFFFFFFFFFFF10, 5⟩ = .ok (.rmaIn 0xFF) := by decide
/-- Two different records of one transaction. -/
theorem witness_IgnoredBitsHaveNoEffect :
    decode ⟨0xFFFFFFFFFFFFFFFF10, 5⟩ = .ok (.rmaIn 0xFF) ∧
    (0xFFFFFFFFFFFFFFFF10 : BitVec 72) &&& usedBits (.rmaIn 0xFF) =
      0x00000000000000FF10 &&& usedBits (.rmaIn 0xFF) := by decide
theorem witness_AddressesAreMaskedTo24Bits :
    rmaTarget 0x00FFFFFF = .register 0xFFFFFF ∧ rmaTarget 0x01000000 = .vram 0 := by decide

/-- A state in which the environment offers one record. -/
def offered (t : Txn) : State := offer t start

theorem witness_StepRunsTheDecodedTransaction :
    (offered ⟨0x000000000010020202, 0⟩).refused = false ∧
    (offered ⟨0x000000000010020202, 0⟩).cfg.wellFormed = true ∧
    (offered ⟨0x000000000010020202, 0⟩).inbox = ⟨0x000000000010020202, 0⟩ :: [] ∧
    decode ⟨0x000000000010020202, 0⟩ = .ok (.mmioRd32 0x100202) := by decide
theorem witness_StepStopsByName_refused : ({ start with refused := true } : State).refused = true := by decide
theorem witness_StepStopsByName_illFormed :
    let s : State := { start with cfg := { testConfig with crystalHz := 0 } }
    s.refused = false ∧ s.cfg.wellFormed = false := by decide
theorem witness_StepStopsByName_endOfRun :
    start.refused = false ∧ start.cfg.wellFormed = true ∧ start.inbox = [] := by decide
theorem witness_StepStopsByName_illegal :
    let t : Txn := ⟨0x000000010000000530, 0⟩
    (offered t).refused = false ∧ (offered t).cfg.wellFormed = true ∧ (offered t).inbox = t :: [] ∧
      decode t = .error (.raiseSource 5) ∧ (offered t).dead = false ∧
      ({ offered t with dead := true } : State).dead = true := by decide
/-- A RAISE_INTR of source code 5, and a TICK_MCLK whose ELAPSED_US is 0. -/
theorem witness_StepStopsByName_marked :
    (∃ m, step (offered ⟨0x000000010000000530, 0⟩) = .refused (.illegalTransaction (.raiseSource 5) m)) ∧
    (∃ m, step (offered ⟨0x000000000000000021, 0⟩) = .refused (.illegalTransaction .nonPositiveElapsed m)) :=
  ⟨⟨_, rfl⟩, ⟨_, rfl⟩⟩
theorem witness_DeadBlockTakesOnlyReset :
    ({ start with dead := true } : State).dead = true ∧ Instr.teardown ≠ .reset := by decide
theorem witness_LegalTransactionsComplete :
    ((Instr.tickVclk 1).wellFormed = true ∧ start.dead = false) ∧ Instr.reset.wellFormed = true := by decide

theorem witness_ArbiterTakesTheFirstRange_first :
    let e : RangeEntry := ⟨0x001000, 0x001FFF, .sub .pbus⟩
    testConfig.ranges = [⟨0x000000, 0x000FFF, .sub .pmc⟩] ++ e :: defaultRanges.drop 2 ∧
      (∀ f ∈ [(⟨0x000000, 0x000FFF, .sub .pmc⟩ : RangeEntry)], ¬ f.Holds (0x001000 : Addr).toNat) ∧
      e.Holds (0x001000 : Addr).toNat ∧ e.Holds (0x001FFF : Addr).toNat := by decide
theorem witness_ArbiterTakesTheFirstRange_order :
    testConfig.wellFormed = true ∧ testConfig.ranges.Perm defaultRanges.reverse := by decide
theorem witness_ArbiterTakesTheFirstRange_overlap :
    let e : RangeEntry := ⟨0x100000, 0x100FFF, .sub .pfb⟩
    let f : RangeEntry := ⟨0x100FFF, 0x101000, .sub .pextdev⟩
    ({ testConfig with ranges := [e, f] } : Config).ranges = [] ++ e :: ([] ++ f :: []) ∧
      e.Holds 0x100FFF ∧ f.Holds 0x100FFF := by decide
/-- The gap just below PFB. -/
theorem witness_ArbiterTakesTheFirstRange_outside :
    start.dead = false ∧ inVgaWindow start.cfg 0x0FFFFF = false ∧
      ∀ e ∈ start.cfg.ranges, ¬ e.Holds (alignAddr 0x0FFFFF).toNat := by decide
/-- The three benign classes: no range, a closed gate, no such register. -/
theorem witness_BenignAccessesReadZeroAndDiscard :
    start.dead = false ∧
    (inVgaWindow start.cfg 0x0C0400 = false ∧ route start (alignAddr 0x0C0400) = .unmapped) ∧
    (inVgaWindow start.cfg 0x003FFC = false ∧ route start (alignAddr 0x003FFC) = .gated .pfifo) ∧
    (inVgaWindow start.cfg 0x000004 = false ∧ route start (alignAddr 0x000004) = .unknown .pmc) := by decide
theorem witness_DefaultMapReachesEveryRegister :
    (start.cfg.ranges = defaultRanges ∧ start.cfg.regmap = defaultRegmap ∧
      start.cfg.vgaWindows = defaultVgaWindows ∧ start.cfg.gated = [⟨.pfifo, 8⟩]) ∧
    start.pmcEnable.getLsbD 8 = false ∧ ({ start with pmcEnable := 0x100 } : State).pmcEnable.getLsbD 8 = true := by
  decide
theorem witness_ExternalAccessesAreForwarded :
    start.dead = false ∧ inVgaWindow start.cfg 0x401FFF = false ∧
      route start (alignAddr 0x401FFF) = .external .pgraph := by decide

/-- The PFIFO gate open, so that every register can be reached. -/
def opened : State := { start with pmcEnable := 0x100 }

/-- For the statements about one register or one kind of register: each of them, at the last byte of its word. -/
theorem witness_registers :
    opened.dead = false ∧
    (Reaches opened 0x000003 .pmcBoot0 ∧ Reaches opened 0x000103 .pmcIntr0 ∧ Reaches opened 0x000143 .pmcIntrEn0 ∧
      Reaches opened 0x000203 .pmcEnable ∧ Reaches opened 0x100203 .pfbConfig0 ∧
      Reaches opened 0x101003 .pextdevBoot0) ∧
    (Reaches opened 0x009203 .ptimerNumerator ∧ Reaches opened 0x009213 .ptimerDenominator ∧
      Reaches opened 0x009403 .ptimerTime0 ∧ Reaches opened 0x009413 .ptimerTime1 ∧
      Reaches opened 0x009423 .ptimerAlarm0) ∧
    (Reaches opened 0x680507 (.coeff .mclk) ∧ Reaches opened 0x68050B (.coeff .vclk)) ∧
    (Reaches opened 0x200103 (.intr .pme) ∧ Reaches opened 0x002103 (.intr .pfifo) ∧
      Reaches opened 0x680103 (.intr .pvideo) ∧ Reaches opened 0x009103 (.intr .ptimer) ∧
      Reaches opened 0x001103 (.intr .pbus)) ∧
    (Reaches opened 0x200143 (.intrEn .pme) ∧ Reaches opened 0x002143 (.intrEn .pfifo) ∧
      Reaches opened 0x680143 (.intrEn .pvideo) ∧ Reaches opened 0x009143 (.intrEn .ptimer) ∧
      Reaches opened 0x001143 (.intrEn .pbus)) := by decide
theorem witness_ReadsReturnTheRegistersLanes :
    start.dead = false ∧ Reaches start 0x100203 .pfbConfig0 ∧ Reg.pfbConfig0 ≠ .pmcIntr0 := by decide
theorem witness_PmcIntrReadRefreshesTheAggregate :
    start.dead = false ∧ Reaches start 0x000103 .pmcIntr0 := by decide
theorem witness_NarrowReadIsASliceOfTheWordRead :
    start.dead = false ∧ OffWindow start 0x100203 ∧ OffWindow start 0x0C0400 := by decide
theorem witness_NarrowWriteIsReadModifyWrite : start.dead = false ∧ OffWindow start 0x001103 := by decide
theorem witness_MisalignedWordAccessIsNotRotated : OffWindow start 0x100203 ∧ OffWindow start 0xFFFFFF := by
  decide
theorem witness_StoringRegistersKeepUntargetedLanes :
    start.dead = false ∧ (Reaches start 0x100203 .pfbConfig0 ∧ storedBits .pfbConfig0 = some 0xFFFFFFFF) ∧
      Reaches start 0x680506 (.coeff .mclk) ∧ storedBits (.coeff .mclk) = some 0x0007FFFF := by decide
/-- The first and the last byte of the windows, and the byte after the first window. -/
theorem witness_VgaReadsAskByteByByte :
    start.dead = false ∧
    (∃ w ∈ start.cfg.vgaWindows, w.start ≤ (0x0C0000 : Addr).toNat ∧ (0x0C0000 : Addr).toNat ≤ w.finish) ∧
    (∃ w ∈ start.cfg.vgaWindows, w.start ≤ (0x681FFF : Addr).toNat ∧ (0x681FFF : Addr).toNat ≤ w.finish) ∧
    ¬ ∃ w ∈ start.cfg.vgaWindows, w.start ≤ (0x0C0400 : Addr).toNat ∧ (0x0C0400 : Addr).toNat ≤ w.finish := by decide
theorem witness_VgaWritesGoOutByteByByte :
    start.dead = false ∧
    ∃ w ∈ start.cfg.vgaWindows, w.start ≤ (0x0C03FF : Addr).toNat ∧ (0x0C03FF : Addr).toNat ≤ w.finish := by decide
theorem witness_ReadsLeaveTheRegistersAlone :
    isRead (.rmaIn 9) = true ∧ after (.rmaIn 9) start (fun t => t.response == .byte 1) = true := by decide
theorem witness_WritesChangeOnlyTheAddressedRegister :
    writesAt (.mmioWr8 0x001101 0x01) = some 0x001101 ∧ Reaches start 0x001101 (.intr .pbus) ∧
      after (.mmioWr8 0x001101 0x01) start (fun _ => true) = true ∧
    (Reaches start 0x009213 .ptimerDenominator ∧ after (.mmioWr8 0x009213 0x01) start (fun t => t.calls == []) = true) ∧
    (Reaches start 0x680506 (.coeff .mclk) ∧ after (.mmioWr8 0x680506 0x01) start (fun t => !t.line) = true) := by
  decide +kernel

theorem witness_PlainRegistersStore :
    start.dead = false ∧ Reaches start 0x000200 .pmcEnable ∧ Reaches start 0x100200 .pfbConfig0 ∧
      Reaches start 0x009200 .ptimerNumerator ∧ Reaches start 0x009420 .ptimerAlarm0 ∧
      Reaches start 0x009400 .ptimerTime0 ∧ Reaches start 0x009410 .ptimerTime1 := by decide
theorem witness_ReadOnlyRegistersIgnoreWrites :
    start.dead = false ∧ Reaches start 0x000003 .pmcBoot0 ∧ Reaches start 0x101000 .pextdevBoot0 := by decide
theorem witness_DenominatorWritesOfZeroStoreOne :
    start.dead = false ∧ Reaches start 0x009213 .ptimerDenominator := by decide
theorem witness_DividerWritesReprogramTheTimer :
    start.dead = false ∧ Reaches start 0x680508 (.coeff .vclk) ∧ Reaches ticking 0x680504 (.coeff .mclk) := by
  decide
theorem witness_StatusWritesClearAndRecompute :
    busPending.dead = false ∧ Reaches busPending 0x001103 (.intr .pbus) ∧
      inVgaWindow start.cfg 0x002100 = false ∧ route start (alignAddr 0x002100) = .gated (pairOwner .pfifo) := by decide
theorem witness_NarrowStatusWriteClearsOtherLanes :
    busPending.dead = false ∧ Reaches busPending 0x001103 (.intr .pbus) := by decide
theorem witness_EnableWritesStoreAndRecompute :
    start.dead = false ∧ Reaches start 0x200143 (.intrEn .pme) := by decide
theorem witness_MasterInterruptWrites :
    start.dead = false ∧ (Reaches start 0x000100 .pmcIntr0 ∧ start.cfg.swTrigger = .bit31Sets) ∧
      (let s : State := { start with cfg := { testConfig with swTrigger := .none } }
       s.dead = false ∧ Reaches s 0x000100 .pmcIntr0 ∧ s.cfg.swTrigger = .none) ∧
      Reaches start 0x000143 .pmcIntrEn0 := by decide

theorem witness_AggregateBitsAreThePendingSources :
    (recompute true busPending).agg.getLsbD 28 = true ∧
      (recompute true busPending).agg.getLsbD 31 = false := by decide
theorem witness_EvaluationOrderDoesNotMatter : allSources.reverse.Perm allSources := by decide
/-- Both gates closed; nothing pending; the selected gate open; and closed, under each SUPPRESS_MODE. -/
theorem witness_RecomputeDrivesTheLine :
    (let s : State := { busPending with globalEnHw := false, globalEnSw := false }
     s.globalEnHw = false ∧ s.globalEnSw = false) ∧
    (start.globalEnHw = true ∧ aggregate start = 0) ∧
    (busPending.globalEnHw = true ∧ aggregate busPending ≠ 0 ∧ (aggregate busPending).toNat % 2 ^ 31 ≠ 0) ∧
    (let s : State := { busPending with globalEnHw := false }
     s.globalEnSw = true ∧ aggregate s ≠ 0 ∧ (aggregate s).toNat % 2 ^ 31 ≠ 0 ∧ s.globalEnHw ≠ true ∧
       s.cfg.suppressMode = .hold) ∧
    (let s : State :=
       { busPending with globalEnHw := false, cfg := { testConfig with suppressMode := .deassert } }
     s.globalEnSw = true ∧ aggregate s ≠ 0 ∧ (aggregate s).toNat % 2 ^ 31 ≠ 0 ∧ s.globalEnHw ≠ true ∧
       s.cfg.suppressMode = .deassert) := by decide
/-- Bit 31 alone agrees, bit 31 with bit 0 does not. -/
theorem witness_ClassificationsAgreeUnlessMixed :
    (0x80000000 : Word) ≠ 0 ∧ (0x80000001 : Word) ≠ 0 ∧
      classify .low31First 0x80000000 = classify .topFirst 0x80000000 ∧
      classify .low31First 0x80000001 ≠ classify .topFirst 0x80000001 := by decide

theorem witness_FrequencyAndPeriodFormulas : 0 < testConfig.crystalHz := by decide
theorem witness_TicksWithoutEffect :
    start.dead = false ∧ (0 : Q) < 1 / 1000000 ∧ start.mclkTimer.running = false ∧ (0 : Q) ≤ 0 := by decide +kernel
/-- TIME one below ALARM, and far from it. -/
theorem witness_MclkTickAdvancesTimeAndAlarm :
    ticking.dead = false ∧ (0 : Q) < 1 ∧ ticking.mclkTimer.running = true ∧
      after (.tickMclk 1) { ticking with time := 0xFFFFFFFE } (fun t => t.ptimer.status == 1) = true ∧
      after (.tickMclk 1) { ticking with time := 0xFFFFFFFD } (fun t => t.ptimer.status == 0) = true := by
  decide +kernel
theorem witness_TicksNeverReprogram :
    after (.tickVclk 1) ticking (fun _ => true) = true ∧ after (.tickMclk 1) ticking (fun _ => true) = true := by
  decide

/-- The ports at the edges of each class, and the two modes. -/
theorem witness_RmaInFixedPorts :
    start.dead = false ∧ (3 : Byte).toNat < 4 ∧ (4 ≤ (4 : Byte).toNat ∧ (7 : Byte).toNat < 8) ∧
      12 ≤ (12 : Byte).toNat ∧ (8 ≤ (8 : Byte).toNat ∧ (11 : Byte).toNat < 12) ∧
      ({ start with rmaMode := 0 } : State).rmaMode.getLsbD testConfig.rmaTxnBit.val = false := by decide
/-- RMA_ADDR at the last byte of the aperture: k = 0 below it, k = 1 above. -/
theorem witness_RmaInDataPorts :
    let s : State := { start with rmaAddr := 0x00FFFFFF }
    s.dead = false ∧ s.rmaMode.getLsbD s.cfg.rmaTxnBit.val = true ∧ (s.rmaAddr.toNat + 0) % 2 ^ 32 < 2 ^ 24 ∧
      2 ^ 24 ≤ (s.rmaAddr.toNat + 1) % 2 ^ 32 := by decide
theorem witness_RmaBytesLandInTheirLanes : start.dead = false ∧ start.rmaMode.getLsbD start.cfg.rmaTxnBit.val = true ∧ 3 < 4 := by decide
theorem witness_RmaOutWithoutTransaction :
    start.dead = false ∧ start.rmaMode.getLsbD start.cfg.rmaTxnBit.val = true ∧ ({ start with rmaMode := 0 } : State).rmaMode.getLsbD testConfig.rmaTxnBit.val = false ∧
      (3 : Byte).toNat = (3 : Fin 4).val ∧ ((10 : Byte).toNat = 8 + (2 : Fin 4).val ∧ start.cfg.rmaTrigger = .port0B) ∧
      (let s : State := { start with cfg := { testConfig with rmaTrigger := .fourthByte }, rmaDcount := 2 }
       s.rmaMode.getLsbD s.cfg.rmaTxnBit.val = true ∧ s.cfg.rmaTrigger = .fourthByte ∧ s.rmaDcount.val < 3 ∧
         (3 : Fin 5).val = s.rmaDcount.val + 1) := by decide
theorem witness_RmaTriggeringByteCompletesATransaction :
    (start.dead = false ∧ start.rmaMode.getLsbD start.cfg.rmaTxnBit.val = true ∧ start.cfg.rmaTrigger = .port0B) ∧
      ({ start with rmaAddr := 0x00FFFFFF } : State).rmaAddr.toNat < 2 ^ 24 ∧
      2 ^ 24 ≤ ({ start with rmaAddr := 0x01000000 } : State).rmaAddr.toNat ∧
      start.rmaMode.getLsbD start.cfg.rmaAutoincBit.val = false ∧
      ({ start with rmaMode := 3 } : State).rmaMode.getLsbD testConfig.rmaAutoincBit.val = true ∧
      (let s : State := { start with cfg := { testConfig with rmaTrigger := .fourthByte }, rmaDcount := 3 }
       s.dead = false ∧ s.rmaMode.getLsbD s.cfg.rmaTxnBit.val = true ∧ s.cfg.rmaTrigger = .fourthByte ∧ 3 ≤ s.rmaDcount.val) := by decide
theorem witness_RmaInOrderBytesMakeOneTransaction :
    start.dead = false ∧ start.rmaMode.getLsbD start.cfg.rmaTxnBit.val = true ∧ start.rmaDcount.val = 0 := by decide
theorem witness_RmaModeWriteStoresTheByte : start.dead = false := by decide
/-- A transaction that completes, one that stops with a fault and one that is refused. -/
theorem witness_SavedBytesAreUnobservable :
    after (.rmaOut 0 1) start (fun t => t.rmaAddr == 1) = true ∧
    (∃ f, exec (.rmaOut 0 1) { start with dead := true } = .fault f) ∧
    (∃ r, exec (.tickVclk 0) start = .refused r) :=
  ⟨by decide, ⟨_, rfl⟩, ⟨_, rfl⟩⟩

theorem witness_RaiseSetsStatusBits : start.dead = false := by decide
theorem witness_GraphicsPendingIsStored : start.dead = false := by decide
theorem witness_TeardownDestroysTheTimers :
    ticking.dead = false ∧ (ticking.timer .mclk).created = true ∧ (ticking.timer .vclk).created = false := by
  decide
theorem witness_ResetRestoresEveryElement :
    start.cfg.timersAtReset = false ∧
      ({ start with cfg := { testConfig with timersAtReset := true } } : State).cfg.timersAtReset = true := by
  decide

theorem witness_OnlyRaiseSetsAStatusBit :
    PairSource.pbus ≠ .ptimer ∧ (start.pair .pbus).status.getLsbD 2 = false ∧
      after (.raiseIntr .pbus 4) start (fun t => (t.pair .pbus).status.getLsbD 2) = true := by decide
/-- A write to a status word behind a closed gate. -/
theorem witness_ClosedGateProtectsThePair :
    let s : State := { start with pfifo := ⟨1, 1⟩ }
    after (.mmioWr32 0x002100 1) s (fun t => t.pfifo.status == 1) = true ∧
      gateClosed s (pairOwner .pfifo) = true ∧ Instr.mmioWr32 0x002100 1 ≠ .reset ∧
      (∀ mask, Instr.mmioWr32 0x002100 1 ≠ .raiseIntr .pfifo mask) ∧ PairSource.pfifo ≠ .ptimer :=
  ⟨by decide, by decide, Instr.noConfusion, fun _ => Instr.noConfusion, PairSource.noConfusion⟩

/-- The bus source pending, and a write of PBUS_INTR_0 offered that acknowledges it. -/
def acknowledging (m : SuppressMode) : State :=
  { busPending with cfg := { testConfig with suppressMode := m }, inbox := [⟨0x000000010000110006, 0⟩] }

theorem witness_StepKeepsTheAggregateFresh :
    AggFresh (acknowledging .hold) ∧ stepped (acknowledging .hold) (fun t => t.agg == 0) = true := by decide
theorem witness_StepKeepsTheLineLaw :
    AggFresh (acknowledging .hold) ∧ LineLaw (acknowledging .hold) ∧
      stepped (acknowledging .hold) (fun t => !t.line) = true := by decide
theorem witness_StepKeepsTheLineExact :
    (acknowledging .deassert).cfg.suppressMode = .deassert ∧ AggFresh (acknowledging .deassert) ∧
      LineExact (acknowledging .deassert) ∧ stepped (acknowledging .deassert) (fun t => !t.line) = true := by
  decide
theorem witness_StepKeepsTheRecordsSound :
    RecordsSound (offer ⟨0x0000021B0068050406, 0⟩ ticking) ∧
      stepped (offer ⟨0x0000021B0068050406, 0⟩ ticking)
        (fun t => t.calls == [.timerSetPeriod .mclk 1]) = true := by decide +kernel

/-- V-HIN-1: refused, the REFUSED mark set; nothing is accepted afterwards, RESET included (R64). -/
theorem test_refused_marks :
    refusedAs (.raiseSource 5) (start.withFetchWord 72 0x000000010000000530) (fun m =>
      m.refused && m == { start with refused := true } &&
        decide ((step (m.withFetchWord 72 0xF0)) matches .refused .refusedForGood)) = true := by decide
/-- V-HIN-2 and V-HIN-3. -/
theorem test_refused_width3_and_tick_zero :
    refusedAs (.unlistedCommand 0x03) (start.withFetchWord 72 0x03) (fun m => m.refused) = true ∧
    refusedAs .nonPositiveElapsed (offer ⟨0x21, 0⟩ start) (fun m => m.refused) = true := by decide

/-- The host's placing: the very next step runs the record. -/
theorem test_withFetchWord :
    stepped (State.withFetchWord start 72 0x000000000000000131) (fun t => t.gr0Pend) = true := by decide

end Sys2Proof.Tests
end

section
/-! Proofs of the family of 20_memory.md: addresses are 24 bits wide (R41) and RMA bytes go to their lanes (R47). -/

namespace Sys2Proof.Machine

/-! ## Records of the six MMIO commands -/

/-- Keeping the low 24 bits of a word is reducing it modulo 2^24 (R41). -/
theorem setWidth_24_eq_ofNat_mod (w : Word) : w.setWidth 24 = BitVec.ofNat 24 (w.toNat % 2 ^ 24) := by
  apply BitVec.eq_of_toNat_eq
  simp

theorem mmioAddr_packT (c : Byte) (a d : Word) (e : Q) :
    (Txn.mk (packT c a d) e).mmioAddr = BitVec.ofNat 24 (a.toNat % 2 ^ 24) := by
  rw [Txn.mmioAddr, Txn.addr_packT, setWidth_24_eq_ofNat_mod]

theorem data8_packT (c : Byte) (a d : Word) (e : Q) :
    (Txn.mk (packT c a d) e).data8 = BitVec.ofNat 8 d.toNat := by
  rw [Txn.data8, Txn.data_packT, BitVec.ofNat_toNat]

theorem data16_packT (c : Byte) (a d : Word) (e : Q) :
    (Txn.mk (packT c a d) e).data16 = BitVec.ofNat 16 d.toNat := by
  rw [Txn.data16, Txn.data_packT, BitVec.ofNat_toNat]

/-- A target that resolves to a register address lies below APERTURE and is that address (R109). -/
theorem setWidth_of_rmaTarget_register {t : Word} {a : Addr} (h : rmaTarget t = .register a) : t.setWidth 24 = a := by
  unfold rmaTarget at h
  split at h
  · exact RmaTarget.register.inj h
  · exact RmaTarget.noConfusion h

/-- Settles O6: the decoder and the RMA target both truncate to 24 bits, and truncating is reducing modulo 2^24. -/
theorem addressesAreMaskedTo24Bits : Obligations.AddressesAreMaskedTo24Bits := by
  refine ⟨fun addr data e => ⟨?_, ?_, ?_, ?_, ?_, ?_⟩, fun t a h => ?_⟩
  case refine_7 => rw [← setWidth_of_rmaTarget_register h, setWidth_24_eq_ofNat_mod]
  all_goals simp only [decode, Txn.cmd_packT, mmioAddr_packT, data8_packT, data16_packT, Txn.data_packT]; rfl

/-! ## Bytes at the RMA ports -/

/-- A byte written to lane `k` is read back from it, and every other lane reads as before (R47). -/
theorem lane_setLane (w : Word) (k : Nat) (b : Byte) {j : Nat} (hj : j < 4) :
    lane (setLane w k b) j = if j = k then b else lane w j := by
  apply BitVec.eq_of_getLsbD_eq
  intro i hi
  rw [lane_getLsbD _ _ hi, setLane_getLsbD _ _ _ (by omega), show (8 * j + i) / 8 = j by omega,
    show (8 * j + i) % 8 = i by omega]
  split_ifs
  · rfl
  · rw [lane_getLsbD _ _ hi]

/-- Ports 0 to 3 are the address ports (R107). -/
theorem rmaPort_low (k : Fin 4) : rmaPort (BitVec.ofNat 8 k.val) = .low k := by
  revert k; decide

/-- Ports 8 to 11 are the data ports (R107). -/
theorem rmaPort_data (k : Fin 4) : rmaPort (BitVec.ofNat 8 (8 + k.val)) = .data k := by
  revert k; decide

/-- On a block that is not torn down RMA_OUT completes (R112). -/
theorem exec_rmaOut {s : State} (p b : Byte) (hd : s.dead = false) :
    exec (.rmaOut p b) s = .next ((rmaWrite p b s).respond .none) := by
  simp [exec, execRmaOut, accept, hd]

/-- In transaction mode the byte at address port `k` replaces lane `k` of RMA_ADDR (R112). -/
theorem rmaWrite_low_rmaAddr {s : State} (k : Fin 4) (b : Byte) (ht : txnMode s = true) :
    (rmaWrite (BitVec.ofNat 8 k.val) b s).rmaAddr = setLane s.rmaAddr k.val b := by
  simp [rmaWrite, ht, rmaPort_low, rmaAddrByte]

/-- In transaction mode the byte at data port `k` replaces lane `k` of RMA_DATA, transaction or not (R112 to R114). -/
theorem rmaWrite_data_rmaData {s : State} (k : Fin 4) (b : Byte) (ht : txnMode s = true) :
    (rmaWrite (BitVec.ofNat 8 (8 + k.val)) b s).rmaData = setLane s.rmaData k.val b := by
  simp only [rmaWrite, ht, if_true, rmaPort_data, completeIf_rmaData, trigger_rmaData, rmaDataByte]

/-- Settles O44: either port group replaces lane `k` of its accumulator, and what a transaction then does leaves RMA_DATA. -/
theorem rmaBytesLandInTheirLanes : Obligations.RmaBytesLandInTheirLanes := by
  intro s k b hd ht hk
  refine ⟨⟨_, exec_rmaOut _ _ hd, fun j hj => ?_⟩, ⟨_, exec_rmaOut _ _ hd, fun j hj => ?_⟩⟩
  · rw [State.respond_rmaAddr, rmaWrite_low_rmaAddr ⟨k, hk⟩ b ht, lane_setLane _ _ _ hj]
  · rw [State.respond_rmaData, rmaWrite_data_rmaData ⟨k, hk⟩ b ht, lane_setLane _ _ _ hj]

end Sys2Proof.Machine
end

section
/-! Proofs of the family of 40_dispatch.md: the arbiter's range scan (R70) and the benign accesses (R70, R71, R73). -/

namespace Sys2Proof.Machine

/-! ## MMIO transactions on a live block -/

/-- A block that is not torn down takes the transaction (R18). -/
theorem accept_of_live {s : State} (run : State → Response × State) (hd : s.dead = false) :
    accept s run = .next ((run s).2.respond (run s).1) := by
  simp [accept, hd]

section
variable {s : State} (a : Addr) (hd : s.dead = false)
include hd

theorem exec_mmioRd8 : exec (.mmioRd8 a) s = .next ((memRead8 a s).2.respond (.data (memRead8 a s).1)) := by
  simp only [exec, execMmioRd8, accept_of_live _ hd, dataResponse]

theorem exec_mmioRd16 : exec (.mmioRd16 a) s = .next ((memRead16 a s).2.respond (.data (memRead16 a s).1)) := by
  simp only [exec, execMmioRd16, accept_of_live _ hd, dataResponse]

theorem exec_mmioRd32 : exec (.mmioRd32 a) s = .next ((memRead32 a s).2.respond (.data (memRead32 a s).1)) := by
  simp only [exec, execMmioRd32, accept_of_live _ hd, dataResponse]

theorem exec_mmioWr8 (b : Byte) : exec (.mmioWr8 a b) s = .next ((memWrite8 a b s).respond .none) := by
  simp only [exec, execMmioWr8, accept_of_live _ hd]

theorem exec_mmioWr16 (v : Half) : exec (.mmioWr16 a v) s = .next ((memWrite16 a v s).respond .none) := by
  simp only [exec, execMmioWr16, accept_of_live _ hd]

theorem exec_mmioWr32 (v : Word) : exec (.mmioWr32 a v) s = .next ((memWrite32 a v s).respond .none) := by
  simp only [exec, execMmioWr32, accept_of_live _ hd]

end

/-! ## Accesses that end nowhere -/

@[simp] theorem extract8_zero (a : Addr) : extract8 0#32 a = 0#32 := by simp [extract8]

@[simp] theorem extract16_zero (a : Addr) : extract16 0#32 a = 0#32 := by simp [extract16]

/-- Read32 of an address that ends nowhere returns 0 and has no effect (R70, R71, R73). -/
theorem read32_of_benign {s : State} {a : Addr} (h : Benign s a) : read32 (alignAddr a) s = (0, s) := by
  obtain ⟨-, hr | ⟨t, hr⟩ | ⟨t, hr⟩⟩ := h <;> simp only [read32, alignAddr_alignAddr, hr]

/-- Write32 to an address that ends nowhere has no effect (R70, R71, R73). -/
theorem write32_of_benign {s : State} {a : Addr} (h : Benign s a) (v : Word) : write32 (alignAddr a) v s = s := by
  obtain ⟨-, hr | ⟨t, hr⟩ | ⟨t, hr⟩⟩ := h <;> simp only [write32, alignAddr_alignAddr, hr]

section
variable {s : State} {a : Addr} (h : Benign s a)
include h

theorem memRead8_of_benign : memRead8 a s = (0, s) := by simp [memRead8, h.1, read32_of_benign h]

theorem memRead16_of_benign : memRead16 a s = (0, s) := by simp [memRead16, h.1, read32_of_benign h]

theorem memRead32_of_benign : memRead32 a s = (0, s) := by simp [memRead32, h.1, read32_of_benign h]

theorem memWrite8_of_benign (b : Byte) : memWrite8 a b s = s := by
  simp [memWrite8, h.1, read32_of_benign h, write32_of_benign h]

theorem memWrite16_of_benign (v : Half) : memWrite16 a v s = s := by
  simp [memWrite16, h.1, read32_of_benign h, write32_of_benign h]

theorem memWrite32_of_benign (v : Word) : memWrite32 a v s = s := by simp [memWrite32, h.1, write32_of_benign h]

end

/-- Settles O12: at each width the composer gets 0 and the state back from Read32, and the state back from Write32. -/
theorem benignAccessesReadZeroAndDiscard : Obligations.BenignAccessesReadZeroAndDiscard := by
  intro s a hd h
  refine ⟨?_, ?_, ?_, fun b => ?_, fun v => ?_, fun v => ?_⟩
  · rw [exec_mmioRd8 _ hd, memRead8_of_benign h]; rfl
  · rw [exec_mmioRd16 _ hd, memRead16_of_benign h]; rfl
  · rw [exec_mmioRd32 _ hd, memRead32_of_benign h]; rfl
  · rw [exec_mmioWr8 _ hd, memWrite8_of_benign h]; rfl
  · rw [exec_mmioWr16 _ hd, memWrite16_of_benign h]; rfl
  · rw [exec_mmioWr32 _ hd, memWrite32_of_benign h]; rfl

/-! ## The range scan -/

theorem findRange_eq (c : Config) (a : Addr) :
    findRange c a = (c.ranges.find? fun e => decide (e.Holds a.toNat)).map RangeEntry.target := by
  simp [findRange]

/-- The first entry that holds the address is the one selected (R70). -/
theorem findRange_of_first {c : Config} {a : Addr} {pre post : List RangeEntry} {e : RangeEntry}
    (hc : c.ranges = pre ++ e :: post) (hpre : ∀ f ∈ pre, ¬ f.Holds a.toNat) (he : e.Holds a.toNat) :
    findRange c a = some e.target := by
  have skipped : ∀ f ∈ pre, (!decide (f.Holds a.toNat)) = true := by
    simpa only [Bool.not_eq_true', decide_eq_false_iff_not] using hpre
  have first : (c.ranges.find? fun e => decide (e.Holds a.toNat)) = some e :=
    List.find?_eq_some_iff_append.mpr ⟨decide_eq_true he, pre, post, hc, skipped⟩
  rw [findRange_eq, first, Option.map_some]

/-- An address that no entry holds selects nothing (R70). -/
theorem findRange_of_outside {c : Config} {a : Addr} (h : ∀ e ∈ c.ranges, ¬ e.Holds a.toNat) : findRange c a = none := by
  rw [findRange_eq, Option.map_eq_none_iff, List.find?_eq_none]
  simpa only [decide_eq_true_eq] using h

/-- Off the VGA window, an address outside every range is benign (R131). -/
theorem benign_of_outside {s : State} {a : Addr} (hw : inVgaWindow s.cfg a = false)
    (h : ∀ e ∈ s.cfg.ranges, ¬ e.Holds (alignAddr a).toNat) : Benign s a :=
  ⟨hw, .inl (by rw [route, findRange_of_outside h])⟩

/-! ## Disjoint ranges (R11) -/

theorem everyPair_iff_pairwise {α : Type} (r : α → α → Bool) (l : List α) :
    everyPair r l = true ↔ l.Pairwise fun x y => r x y = true := by
  induction l with
  | nil => simp [everyPair]
  | cons x xs ih => simp [everyPair, ih]

theorem pairwise_disjoint_of_wellFormed {c : Config} (h : c.wellFormed = true) :
    c.ranges.Pairwise fun e f => e.disjoint f = true := by
  simp only [Config.wellFormed, Bool.and_eq_true] at h
  obtain ⟨⟨⟨⟨⟨-, hdisj⟩, -⟩, -⟩, -⟩, -⟩ := h
  exact (everyPair_iff_pairwise _ _).mp hdisj

theorem rangeDisjoint_symm : Std.Symm fun e f : RangeEntry => e.disjoint f = true :=
  ⟨fun e f h => by simpa [RangeEntry.disjoint, or_comm] using h⟩

/-- Disjoint entries do not hold one address. -/
theorem not_holds_of_disjoint {e f : RangeEntry} {a : Nat} (h : e.disjoint f = true) (he : e.Holds a) :
    ¬ f.Holds a := by
  simp only [RangeEntry.disjoint, Bool.or_eq_true, decide_eq_true_eq] at h
  unfold RangeEntry.Holds at *
  omega

/-- In a well-formed configuration at most one entry holds an address (R70). -/
theorem holds_unique {c : Config} (h : c.wellFormed = true) {a : Nat} {e f : RangeEntry}
    (he : e ∈ c.ranges) (hf : f ∈ c.ranges) (hea : e.Holds a) (hfa : f.Holds a) : e = f := by
  by_contra hne
  have := rangeDisjoint_symm
  have hdisj : e.disjoint f = true := (pairwise_disjoint_of_wellFormed h).forall he hf hne
  exact not_holds_of_disjoint hdisj hea hfa

/-- The order of the ranges of a well-formed configuration is not observable (R70). -/
theorem findRange_of_perm {c : Config} {rs : List RangeEntry} (h : c.wellFormed = true) (hp : c.ranges.Perm rs)
    (a : Addr) : findRange { c with ranges := rs } a = findRange c a := by
  rw [findRange_eq, findRange_eq, List.find?_eq_find?_of_perm hp]
  rintro e ⟨he, hea⟩ f ⟨hf, hfa⟩
  exact holds_unique h he hf (of_decide_eq_true hea) (of_decide_eq_true hfa)

/-- Two entries, at different places of the table, that hold one address break R11. -/
theorem illFormed_of_overlap {c : Config} {pre mid post : List RangeEntry} {e f : RangeEntry} {a : Nat}
    (hc : c.ranges = pre ++ e :: (mid ++ f :: post)) (he : e.Holds a) (hf : f.Holds a) : c.wellFormed = false := by
  by_contra hwf
  have hpairs := pairwise_disjoint_of_wellFormed (Bool.eq_true_of_not_eq_false hwf)
  rw [hc, List.pairwise_append, List.pairwise_cons] at hpairs
  obtain ⟨-, ⟨hafter, -⟩, -⟩ := hpairs
  exact not_holds_of_disjoint (hafter f (by simp)) he hf

/-- Settles O11: the scan takes the first entry that holds the address, R11 leaves at most one, and an address that no
entry holds is benign. -/
theorem arbiterTakesTheFirstRange : Obligations.ArbiterTakesTheFirstRange := by
  refine ⟨fun c a pre post e => findRange_of_first, fun c a rs hwf hp => findRange_of_perm hwf hp a,
    fun c pre mid post e f a => illFormed_of_overlap, fun s a v hd hw hout => ?_⟩
  obtain ⟨-, -, hread, -, -, hwrite⟩ := benignAccessesReadZeroAndDiscard s a hd (benign_of_outside hw hout)
  exact ⟨hread, hwrite v⟩

end Sys2Proof.Machine
end

section
/-! Proofs of the family of 42_clock_timer.md: what an access at a register's address does, and PTIMER_DENOMINATOR (R104). -/

namespace Sys2Proof.Machine

/-! ## Accesses that end at a register -/

/-- The route of an access depends on the parameters and on the gates in PMC_ENABLE, and on nothing else (R68, R71). -/
theorem route_congr {s t : State} (hc : s.cfg = t.cfg) (hg : s.pmcEnable = t.pmcEnable) (a : Addr) :
    route s a = route t a := by
  have hgate : gateClosed s = gateClosed t := by
    funext u
    rw [gateClosed, gateClosed, hc, hg]
  rw [route, route, hc, hgate]

section
variable {s : State} {a : Addr} {r : Reg} (h : Reaches s a r)
include h

theorem read32_of_reaches : read32 (alignAddr a) s = readReg r s := by
  simp only [read32, alignAddr_alignAddr, h.2]

theorem write32_of_reaches (v : Word) : write32 (alignAddr a) v s = writeReg r v s := by
  simp only [write32, alignAddr_alignAddr, h.2]

/-- The read phase of a narrow write leaves the register where it was: it touches neither parameters nor gates. -/
theorem reaches_readReg : Reaches (readReg r s).2 a r :=
  ⟨by rw [readReg_cfg, h.1], by rw [route_congr (readReg_cfg r s) (readReg_pmcEnable r s), h.2]⟩

theorem memRead32_of_reaches : memRead32 a s = readReg r s := by
  simp [memRead32, h.1, read32_of_reaches h]

theorem memWrite32_of_reaches (v : Word) : memWrite32 a v s = writeReg r v s := by
  simp [memWrite32, h.1, write32_of_reaches h]

/-- R89: an 8-bit write stores the word read, with one lane replaced, through the register's write rule. -/
theorem memWrite8_of_reaches (b : Byte) :
    memWrite8 a b s = writeReg r (insert8 (readReg r s).1 a b) (readReg r s).2 := by
  simp [memWrite8, h.1, read32_of_reaches h, write32_of_reaches (reaches_readReg h)]

/-- R90: a 16-bit write stores the word read, with two lanes replaced, through the register's write rule. -/
theorem memWrite16_of_reaches (v : Half) :
    memWrite16 a v s = writeReg r (insert16 (readReg r s).1 a v) (readReg r s).2 := by
  simp [memWrite16, h.1, read32_of_reaches h, write32_of_reaches (reaches_readReg h)]

end

/-! ## PTIMER_DENOMINATOR -/

theorem readReg_ptimerDenominator (s : State) : readReg .ptimerDenominator s = (s.den, s) := rfl

theorem writeReg_ptimerDenominator (v : Word) (s : State) :
    writeReg .ptimerDenominator v s = { s with den := if v = 0 then 1 else v } := rfl

/-- Settles O27: every width goes through the register's rules, its read changes nothing, and its write stores the word
corrected. -/
theorem denominatorWritesOfZeroStoreOne : Obligations.DenominatorWritesOfZeroStoreOne := by
  intro s a hd h
  refine ⟨?_, fun v => ?_, fun b => ?_, fun v => ?_⟩
  · rw [exec_mmioRd32 _ hd, memRead32_of_reaches h, readReg_ptimerDenominator]; rfl
  · rw [exec_mmioWr32 _ hd, memWrite32_of_reaches h, writeReg_ptimerDenominator]; rfl
  · rw [exec_mmioWr8 _ hd, memWrite8_of_reaches h, readReg_ptimerDenominator, writeReg_ptimerDenominator]; rfl
  · rw [exec_mmioWr16 _ hd, memWrite16_of_reaches h, readReg_ptimerDenominator, writeReg_ptimerDenominator]; rfl

end Sys2Proof.Machine
end

section
/-! Proofs of the family of 70_reset_and_hazards.md: what a tick can change, and that it programs no host timer (R102, R151). -/

namespace Sys2Proof.Machine

/-! ## What a tick may change -/

/-- `t` differs from `s` in TIME, PTIMER_STATUS, AGG, LINE, the response and the calls alone, and none of the calls added is
a request on the host-timer port (R102, R151). -/
def TickFrame (s t : State) : Prop :=
  t = { s with
        time := t.time, ptimer := ⟨t.ptimer.status, s.ptimer.enable⟩
        agg := t.agg, line := t.line, calls := t.calls, response := t.response } ∧
  ∃ new, t.calls = s.calls ++ new ∧ ∀ c ∈ new, isTimerCall c = false

namespace TickFrame

/-- A change within the frame that makes no call. -/
theorem of_calls_eq {s t : State}
    (h : t = { s with
          time := t.time, ptimer := ⟨t.ptimer.status, s.ptimer.enable⟩
          agg := t.agg, line := t.line, calls := t.calls, response := t.response })
    (hc : t.calls = s.calls) : TickFrame s t :=
  ⟨h, [], by simp [hc], by simp⟩

theorem refl (s : State) : TickFrame s s := of_calls_eq rfl rfl

theorem trans {s t u : State} (hst : TickFrame s t) (htu : TickFrame t u) : TickFrame s u := by
  obtain ⟨ht, new, hcalls, hnew⟩ := hst
  obtain ⟨hu, more, hcalls', hmore⟩ := htu
  refine ⟨?_, new ++ more, by rw [hcalls', hcalls, List.append_assoc], fun c hc => ?_⟩
  · rw [ht] at hu
    exact hu
  · exact (List.mem_append.mp hc).elim (hnew c) (hmore c)

theorem respond (s : State) (r : Response) : TickFrame s (s.respond r) := of_calls_eq rfl rfl

theorem advanceTime (e : Q) (s : State) : TickFrame s (advanceTime e s) := of_calls_eq rfl rfl

end TickFrame

/-! ## The tick of the memory clock -/

/-- The only calls that drive the line are IrqAssert and IrqDeassert (R125). -/
theorem LineAction.isTimerCall_of_mem_calls (x : LineAction) : ∀ c ∈ x.calls, isTimerCall c = false := by
  cases x <;> simp [LineAction.calls, isTimerCall]

/-- Raising status bits of the timer's own pair leaves its enable bits, and dispatches (R117, R124). -/
theorem tickFrame_raiseStatus (mask : Word) (s : State) : TickFrame s (raiseStatus .ptimer mask s) := by
  rw [raiseStatus, recompute_eq]
  exact ⟨rfl, _, rfl, LineAction.isTimerCall_of_mem_calls _⟩

theorem tickFrame_evaluateAlarm (s : State) : TickFrame s (evaluateAlarm s) := by
  unfold evaluateAlarm
  split
  · exact tickFrame_raiseStatus _ s
  · exact .refl s

theorem tickFrame_tickMclk (e : Q) (s : State) : TickFrame s (tickMclk e s) := by
  unfold tickMclk
  split
  · exact (TickFrame.advanceTime e s).trans (tickFrame_evaluateAlarm _)
  · exact .refl s

/-! ## Ticks as transactions -/

theorem exec_tickVclk (e : Q) (s : State) : exec (.tickVclk e) s = acceptTick e s id := rfl

theorem exec_tickMclk (e : Q) (s : State) : exec (.tickMclk e) s = acceptTick e s (tickMclk e) := rfl

/-- A tick that completes is one of positive ELAPSED_US on a live block, and it returns nothing (R64, R120). -/
theorem acceptTick_next {e : Q} {s t : State} {run : State → State} (h : acceptTick e s run = .next t) :
    s.dead = false ∧ positiveElapsed e = true ∧ t = (run s).respond .none := by
  unfold acceptTick at h
  split at h
  case isTrue => cases h
  case isFalse hd =>
    split at h <;> cases h
    rename_i he
    exact ⟨by simpa using hd, he, rfl⟩

/-- A tick that completes stays in the frame when its effect does. -/
theorem tickFrame_of_acceptTick {e : Q} {s t : State} {run : State → State} (hrun : TickFrame s (run s))
    (h : acceptTick e s run = .next t) : TickFrame s t := by
  obtain ⟨-, -, rfl⟩ := acceptTick_next h
  exact hrun.trans (.respond _ _)

/-- Settles O41: the pixel clock's tick has no effect, and the memory clock's moves TIME and raises the alarm. -/
theorem ticksNeverReprogram : Obligations.TicksNeverReprogram := by
  rintro i s t e (rfl | rfl) h
  · rw [exec_tickVclk] at h
    exact tickFrame_of_acceptTick (.refl s) h
  · rw [exec_tickMclk] at h
    exact tickFrame_of_acceptTick (tickFrame_tickMclk e s) h

end Sys2Proof.Machine
end

section
/-! Proofs about records (30_encoding.md): which records decode to a transaction, and which are illegal (O1 to O5). -/

namespace Sys2Proof

/-! ## The fields a command uses -/

/-- The bits of ADDR a command uses (R60, R61). -/
def usedAddr : Instr → Word
  | .mmioRd8 _ | .mmioRd16 _ | .mmioRd32 _ | .mmioWr8 _ _ | .mmioWr16 _ _ | .mmioWr32 _ _ => 0xFFFFFF
  | .rmaIn _ | .rmaOut _ _ => 0xFF
  | .raiseIntr _ _ => 0x7
  | .grPending _ _ => 0x3
  | .rmaModeWr _ | .tickVclk _ | .tickMclk _ | .reset | .teardown => 0

/-- The bits of DATA a command uses (R60, R61). -/
def usedData : Instr → Word
  | .mmioWr8 _ _ | .rmaOut _ _ | .rmaModeWr _ => 0xFF
  | .mmioWr16 _ _ => 0xFFFF
  | .mmioWr32 _ _ | .raiseIntr _ _ => 0xFFFFFFFF
  | .mmioRd8 _ | .mmioRd16 _ | .mmioRd32 _ | .rmaIn _ | .tickVclk _ | .tickMclk _ => 0
  | .grPending _ _ | .reset | .teardown => 0

theorem usedBits_eq_packT (i : Instr) : usedBits i = packT 0xFF (usedAddr i) (usedData i) := by
  cases i <;> (simp only [usedBits, usedAddr, usedData]; decide)

/-- The bits of a record that a command uses are CMD and the used bits of the two operand fields. -/
theorem packed_and_usedBits (t : Txn) (i : Instr) :
    t.packed &&& usedBits i = packT t.cmd (t.addr &&& usedAddr i) (t.data &&& usedData i) := by
  rw [t.packed_eq, usedBits_eq_packT, packT_and]
  congr 1
  exact BitVec.and_allOnes

/-- The low `n` bits of a word are `a` exactly when the word, masked to them, is `a` zero-extended. -/
theorem setWidth_eq_iff_and {n : Nat} (hn : n ≤ 32) (w : Word) (a : BitVec n) :
    w.setWidth n = a ↔ w &&& BitVec.ofNat 32 (2 ^ n - 1) = a.setWidth 32 := by
  rw [← setWidth_setWidth_eq_and]
  constructor
  · rintro rfl
    rfl
  · intro h
    have := congrArg (BitVec.setWidth n) h
    simpa [BitVec.setWidth_setWidth_of_le _ hn] using this

/-- The source code of a pair, and only it, selects the pair (R63). -/
theorem raiseSourceOf_eq_ok_iff (c : BitVec 3) (S : PairSource) : raiseSourceOf c = .ok S ↔ c = raiseCode S := by
  cases S <;> (revert c; decide)

theorem setWidth_two_eq (w : Word) : w.setWidth 2 = BitVec.ofBool (w.getLsbD 1) ++ BitVec.ofBool (w.getLsbD 0) := by
  apply BitVec.eq_of_getLsbD_eq
  intro i hi
  obtain rfl | rfl : i = 0 ∨ i = 1 := by omega
  all_goals simp only [BitVec.getLsbD_setWidth, BitVec.getLsbD_append, BitVec.getLsbD_ofBool]; simp

/-- The two bits of a GR_PENDING record are ADDR[0] and ADDR[1] (R60). -/
theorem grBits_eq_iff (w : Word) (g0 g1 : Bool) :
    (w.getLsbD 0 = g0 ∧ w.getLsbD 1 = g1) ↔ w &&& 3 = (BitVec.ofBool g1 ++ BitVec.ofBool g0).setWidth 32 := by
  have pairs : ∀ a b c d : Bool,
      BitVec.ofBool a ++ BitVec.ofBool b = BitVec.ofBool c ++ BitVec.ofBool d ↔ b = d ∧ a = c := by decide
  rw [show (3 : Word) = BitVec.ofNat 32 (2 ^ 2 - 1) from rfl, ← setWidth_eq_iff_and (by decide), setWidth_two_eq, pairs]

/-! ## Which records decode to a transaction -/

/-- A record whose command code is `c` decodes as the row of `c` says. -/
theorem cmd_eq_of_toNat {t : Txn} {c : Byte} (h : t.cmd.toNat = c.toNat) : t.cmd = c := BitVec.eq_of_toNat_eq h

theorem mmioAddr_eq_iff (t : Txn) (a : Addr) : t.mmioAddr = a ↔ t.addr &&& 0xFFFFFF = a.setWidth 32 :=
  setWidth_eq_iff_and (by decide) t.addr a

theorem port_eq_iff (t : Txn) (p : Byte) : t.port = p ↔ t.addr &&& 0xFF = p.setWidth 32 :=
  setWidth_eq_iff_and (by decide) t.addr p

theorem data8_eq_iff (t : Txn) (b : Byte) : t.data8 = b ↔ t.data &&& 0xFF = b.setWidth 32 :=
  setWidth_eq_iff_and (by decide) t.data b

theorem data16_eq_iff (t : Txn) (h : Half) : t.data16 = h ↔ t.data &&& 0xFFFF = h.setWidth 32 :=
  setWidth_eq_iff_and (by decide) t.data h

theorem raiseSource_eq_iff (t : Txn) (S : PairSource) :
    raiseSourceOf (t.addr.setWidth 3) = .ok S ↔ t.addr &&& 7 = (raiseCode S).setWidth 32 := by
  rw [raiseSourceOf_eq_ok_iff]
  exact setWidth_eq_iff_and (by decide) t.addr (raiseCode S)

theorem decodeTick_eq_ok_iff {make : Q → Instr} {e : Q} {i : Instr} :
    decodeTick make e = .ok i ↔ positiveElapsed e = true ∧ make e = i := by
  unfold decodeTick
  split <;> simp_all

theorem decodeRaise_eq_ok_iff {t : Txn} {i : Instr} :
    decodeRaise t = .ok i ↔ ∃ S, raiseSourceOf (t.addr.setWidth 3) = .ok S ∧ .raiseIntr S t.data = i := by
  unfold decodeRaise
  split <;> simp_all

/-- `t` carries what the record of `i` carries, in every bit and operand that the command of `i` uses (R60 to R65). -/
structure Carries (t : Txn) (i : Instr) : Prop where
  cmd : t.cmd = commandCode i
  addr : t.addr &&& usedAddr i = addrField i
  data : t.data &&& usedData i = dataField i
  elapsed : carriesElapsed i = true → t.elapsedUs = elapsedField i

/-- The decoder reads only what the command uses: the rows of R62, taken from the record to the transaction. -/
theorem carries_of_decode {t : Txn} {i : Instr} (h : decode t = .ok i) : Carries t i ∧ i.wellFormed = true := by
  unfold decode at h
  split at h
  case h_1 hc | h_2 hc | h_3 hc =>
    cases h; exact ⟨⟨cmd_eq_of_toNat hc, (mmioAddr_eq_iff t _).mp rfl, BitVec.and_zero, nofun⟩, rfl⟩
  case h_4 hc =>
    cases h; exact ⟨⟨cmd_eq_of_toNat hc, (mmioAddr_eq_iff t _).mp rfl, (data8_eq_iff t _).mp rfl, nofun⟩, rfl⟩
  case h_5 hc =>
    cases h; exact ⟨⟨cmd_eq_of_toNat hc, (mmioAddr_eq_iff t _).mp rfl, (data16_eq_iff t _).mp rfl, nofun⟩, rfl⟩
  case h_6 hc =>
    cases h; exact ⟨⟨cmd_eq_of_toNat hc, (mmioAddr_eq_iff t _).mp rfl, BitVec.and_allOnes, nofun⟩, rfl⟩
  case h_7 hc => cases h; exact ⟨⟨cmd_eq_of_toNat hc, (port_eq_iff t _).mp rfl, BitVec.and_zero, nofun⟩, rfl⟩
  case h_8 hc =>
    cases h; exact ⟨⟨cmd_eq_of_toNat hc, (port_eq_iff t _).mp rfl, (data8_eq_iff t _).mp rfl, nofun⟩, rfl⟩
  case h_9 hc => cases h; exact ⟨⟨cmd_eq_of_toNat hc, BitVec.and_zero, (data8_eq_iff t _).mp rfl, nofun⟩, rfl⟩
  case h_10 hc | h_11 hc =>
    obtain ⟨he, rfl⟩ := decodeTick_eq_ok_iff.mp h
    exact ⟨⟨cmd_eq_of_toNat hc, BitVec.and_zero, BitVec.and_zero, fun _ => rfl⟩, he⟩
  case h_12 hc =>
    obtain ⟨S, hS, rfl⟩ := decodeRaise_eq_ok_iff.mp h
    exact ⟨⟨cmd_eq_of_toNat hc, (raiseSource_eq_iff t S).mp hS, BitVec.and_allOnes, nofun⟩, rfl⟩
  case h_13 hc =>
    cases h; exact ⟨⟨cmd_eq_of_toNat hc, (grBits_eq_iff t.addr _ _).mp ⟨rfl, rfl⟩, BitVec.and_zero, nofun⟩, rfl⟩
  case h_14 hc | h_15 hc => cases h; exact ⟨⟨cmd_eq_of_toNat hc, BitVec.and_zero, BitVec.and_zero, nofun⟩, rfl⟩
  case h_16 => cases h

/-- The rows of R62, taken from the transaction to its records. -/
theorem decode_of_carries {t : Txn} {i : Instr} (h : Carries t i) (hw : i.wellFormed = true) : decode t = .ok i := by
  obtain ⟨hc, ha, hd, he⟩ := h
  cases i <;> simp only [commandCode, addrField, dataField, usedAddr, usedData] at hc ha hd <;>
    simp only [decode, hc]
  case mmioRd8 a | mmioRd16 a | mmioRd32 a => obtain rfl := (mmioAddr_eq_iff t a).mpr ha; rfl
  case mmioWr8 a b => obtain rfl := (mmioAddr_eq_iff t a).mpr ha; obtain rfl := (data8_eq_iff t b).mpr hd; rfl
  case mmioWr16 a v => obtain rfl := (mmioAddr_eq_iff t a).mpr ha; obtain rfl := (data16_eq_iff t v).mpr hd; rfl
  case mmioWr32 a v => obtain rfl := (mmioAddr_eq_iff t a).mpr ha; obtain rfl : t.data = v := BitVec.and_allOnes.symm.trans hd; rfl
  case rmaIn p => obtain rfl := (port_eq_iff t p).mpr ha; rfl
  case rmaOut p b => obtain rfl := (port_eq_iff t p).mpr ha; obtain rfl := (data8_eq_iff t b).mpr hd; rfl
  case rmaModeWr b => obtain rfl := (data8_eq_iff t b).mpr hd; rfl
  case tickVclk e | tickMclk e => obtain rfl : t.elapsedUs = e := he rfl; exact decodeTick_eq_ok_iff.mpr ⟨hw, rfl⟩
  case raiseIntr S mask =>
    obtain rfl : t.data = mask := BitVec.and_allOnes.symm.trans hd
    exact decodeRaise_eq_ok_iff.mpr ⟨S, (raiseSource_eq_iff t S).mpr ha, rfl⟩
  case grPending g0 g1 => obtain ⟨rfl, rfl⟩ := (grBits_eq_iff t.addr g0 g1).mpr ha; rfl
  case reset | teardown => rfl

/-! ## The transaction's own record -/

/-- A zero-extended field is unchanged by masking it to its width. -/
theorem setWidth_and_mask {n : Nat} (hn : n ≤ 32) (a : BitVec n) :
    a.setWidth 32 &&& BitVec.ofNat 32 (2 ^ n - 1) = a.setWidth 32 :=
  (setWidth_eq_iff_and hn _ a).mp (by simp [BitVec.setWidth_setWidth_of_le _ hn])

/-- An instruction's own record sets only bits that its command uses (R65). -/
theorem addrField_and_usedAddr (i : Instr) : addrField i &&& usedAddr i = addrField i := by
  cases i
  case mmioRd8 a | mmioRd16 a | mmioRd32 a => exact setWidth_and_mask (by decide) a
  case mmioWr8 a _ | mmioWr16 a _ | mmioWr32 a _ => exact setWidth_and_mask (by decide) a
  case rmaIn p | rmaOut p _ => exact setWidth_and_mask (by decide) p
  case raiseIntr S _ => exact setWidth_and_mask (by decide) (raiseCode S)
  case grPending g0 g1 => exact setWidth_and_mask (by decide) (BitVec.ofBool g1 ++ BitVec.ofBool g0)
  all_goals exact BitVec.zero_and

theorem dataField_and_usedData (i : Instr) : dataField i &&& usedData i = dataField i := by
  cases i
  case mmioWr8 _ b | rmaOut _ b | rmaModeWr b => exact setWidth_and_mask (by decide) b
  case mmioWr16 _ h => exact setWidth_and_mask (by decide) h
  case mmioWr32 _ v | raiseIntr _ v => exact BitVec.and_allOnes
  all_goals exact BitVec.zero_and

theorem carries_encode (i : Instr) : Carries (encode i) i where
  cmd := Txn.cmd_packT ..
  addr := by rw [encode, Txn.addr_packT, addrField_and_usedAddr]
  data := by rw [encode, Txn.data_packT, dataField_and_usedData]
  elapsed _ := rfl

/-- Settles O1: a legal transaction's own record carries it, and the decoder takes what a record carries. -/
theorem encodeThenDecode : Obligations.EncodeThenDecode :=
  fun i => decode_of_carries (carries_encode i)

/-- Settles O2: a record that decodes carries the transaction, so its used bits are those of the transaction's own. -/
theorem decodedRecordIsCanonical : Obligations.DecodedRecordIsCanonical := by
  intro t i h
  obtain ⟨⟨hc, ha, hd, he⟩, hw⟩ := carries_of_decode h
  exact ⟨hw, by rw [packed_and_usedBits, hc, ha, hd, encode], fun ht => (he ht).symm⟩

/-- Settles O3: a record that agrees on the used bits carries the same transaction. -/
theorem ignoredBitsHaveNoEffect : Obligations.IgnoredBitsHaveNoEffect := by
  intro t u i h hbits helapsed
  obtain ⟨⟨hc, ha, hd, he⟩, hw⟩ := carries_of_decode h
  rw [packed_and_usedBits, packed_and_usedBits] at hbits
  obtain ⟨hcmd, haddr, hdata⟩ := packT_inj hbits
  exact decode_of_carries
    ⟨hcmd ▸ hc, haddr ▸ ha, hdata ▸ hd, fun ht => (helapsed ht).symm.trans (he ht)⟩ hw

/-! ## The illegal records -/

theorem decodeTick_error_iff (make : Q → Instr) (e : Q) : (∃ r, decodeTick make e = .error r) ↔ e ≤ 0 := by
  unfold decodeTick positiveElapsed
  split <;> simp_all [Rat.num_pos]

theorem exists_error_iff {ε α : Type} (x : Except ε α) : (∃ e, x = .error e) ↔ x.isOk = false := by
  cases x <;> simp [Except.isOk, Except.toBool]

/-- The codes 5 to 7 select no pair (R63). -/
theorem raiseSourceOf_error_iff (c : BitVec 3) : (∃ r, raiseSourceOf c = .error r) ↔ 5 ≤ c.toNat := by
  rw [exists_error_iff]
  revert c
  decide

theorem decodeRaise_error_iff (t : Txn) :
    (∃ r, decodeRaise t = .error r) ↔ 5 ≤ (t.packed.extractLsb' 8 3).toNat := by
  have code : t.addr.setWidth 3 = t.packed.extractLsb' 8 3 := by
    ext i hi
    simp [Txn.addr, show i < 32 by omega]
  rw [← code, ← raiseSourceOf_error_iff, decodeRaise]
  split <;> simp_all

/-- A command byte off the list of R62 meets none of the decoder's rows. -/
theorem decode_of_unlisted {t : Txn} (h : t.cmd ∉ listedCommands) : decode t = .error (.unlistedCommand t.cmd) := by
  have hn : t.cmd.toNat ∉ listedCommands.map BitVec.toNat :=
    fun hm => h ((List.mem_map_of_injective BitVec.toNat_injective).mp hm)
  simp only [listedCommands, List.map_cons, List.map_nil, List.mem_cons, not_or] at hn
  unfold decode
  split <;> simp_all

/-- A record whose command is on the list is illegal only as a RAISE_INTR or as a tick (R64). -/
theorem decode_error_iff_of_listed {t : Txn} (h : t.cmd ∈ listedCommands) :
    (∃ e, decode t = .error e) ↔
      (t.cmd = 0x30 ∧ ∃ e, decodeRaise t = .error e) ∨
      (t.cmd = 0x20 ∧ ∃ e, decodeTick .tickVclk t.elapsedUs = .error e) ∨
      (t.cmd = 0x21 ∧ ∃ e, decodeTick .tickMclk t.elapsedUs = .error e) := by
  simp only [listedCommands, List.mem_cons, List.not_mem_nil, or_false] at h
  rcases h with h | h | h | h | h | h | h | h | h | h | h | h | h | h | h <;> simp [decode, h]

/-- Settles O4: off the list every record is illegal, on it a RAISE_INTR by its source code and a tick by its ELAPSED_US. -/
theorem illegalRecordsAreExactlyThese : Obligations.IllegalRecordsAreExactlyThese := by
  intro t
  change _ ↔ t.cmd ∉ listedCommands ∨ (t.cmd = 0x30 ∧ _) ∨ (t.cmd = 0x20 ∨ t.cmd = 0x21) ∧ _
  by_cases h : t.cmd ∈ listedCommands
  · rw [decode_error_iff_of_listed h, decodeRaise_error_iff, decodeTick_error_iff, decodeTick_error_iff, or_and_right]
    simp [h]
  · simp [h, decode_of_unlisted h]

/-- Settles O5: each record decodes by evaluation, the two illegal ones to their refusals. -/
theorem workedRecordsDecode : Obligations.WorkedRecordsDecode := by
  refine ⟨?_, ?_, ?_, ?_, ?_, ?_, ?_, ?_, ?_⟩
  case refine_4 => exact Tests.test_decode_tickMclk
  all_goals decide

end Sys2Proof
end

section
/-! Proofs about the aggregator (60_exceptions.md): the bits of AGG, the classification, and what Recompute does to LINE. -/

namespace Sys2Proof.Machine

/-! ## The bits of the aggregate -/

theorem flagWord_ne_zero (b : Bool) : flagWord b ≠ 0 ↔ b = true := by cases b <;> simp [flagWord]

/-- One turn of the loop sets the source's bit if the source is pending, and touches no other bit (R124). -/
theorem addPending_getLsbD (s : State) (acc : Word) (x : IrqSource) (i : Nat) :
    (addPending s acc x).getLsbD i = true ↔
      acc.getLsbD i = true ∨ (i = (aggBit s.cfg.aggBits x).val ∧ pendingWord s x ≠ 0) := by
  have bit : ((1 : Word) <<< (aggBit s.cfg.aggBits x).val).getLsbD i = true ↔ i = (aggBit s.cfg.aggBits x).val := by
    change (BitVec.twoPow 32 _).getLsbD i = true ↔ _
    rw [BitVec.getLsbD_twoPow]
    simp [(aggBit s.cfg.aggBits x).isLt, eq_comm]
  unfold addPending
  split <;> rename_i hp
  · rw [BitVec.getLsbD_or, Bool.or_eq_true, bit, and_iff_left hp]
  · simp [not_not.mp hp]

/-- The loop of R124 over any list of sources, bit by bit. -/
theorem foldl_addPending_getLsbD (s : State) (l : List IrqSource) (acc : Word) (i : Nat) :
    (l.foldl (addPending s) acc).getLsbD i = true ↔
      acc.getLsbD i = true ∨ ∃ x ∈ l, i = (aggBit s.cfg.aggBits x).val ∧ pendingWord s x ≠ 0 := by
  induction l generalizing acc with
  | nil => simp
  | cons x xs ih => rw [List.foldl_cons, ih, addPending_getLsbD, or_assoc, List.exists_mem_cons_iff]

theorem aggregate_getLsbD (s : State) (i : Nat) :
    (aggregate s).getLsbD i = true ↔
      ∃ x ∈ allSources, i = (aggBit s.cfg.aggBits x).val ∧ pendingWord s x ≠ 0 := by
  simp [aggregate, foldl_addPending_getLsbD]

/-- Settles O33: the loop's bits, source by source. -/
theorem aggregateBitsAreThePendingSources : Obligations.AggregateBitsAreThePendingSources := by
  intro b s i
  rw [recompute_agg, aggregate_getLsbD]
  simp only [allSources, List.exists_mem_cons_iff, List.not_mem_nil, false_and, exists_false, or_false, aggBit,
    pendingWord, pairPending, flagWord_ne_zero]
  rfl

/-- Settles O34: the loop's bits depend on which sources are in the list, not on their order. -/
theorem evaluationOrderDoesNotMatter : Obligations.EvaluationOrderDoesNotMatter := by
  intro s order hp
  apply BitVec.eq_of_getLsbD_eq
  intro i _
  rw [Bool.eq_iff_iff, foldl_addPending_getLsbD, aggregate_getLsbD]
  simp [hp.mem_iff]

/-! ## The classification -/

theorem getLsbD_31_iff (w : Word) : w.getLsbD 31 = true ↔ 2 ^ 31 ≤ w.toNat := by
  rw [← BitVec.msb_eq_getLsbD_last, BitVec.msb_eq_decide, decide_eq_true_eq]

theorem and_low31_ne_zero_iff (w : Word) : w &&& 0x7FFFFFFF ≠ 0 ↔ w.toNat % 2 ^ 31 ≠ 0 := by
  rw [Ne, ← BitVec.toNat_inj, BitVec.toNat_and]
  exact not_congr (by rw [← Nat.and_two_pow_sub_one_eq_mod w.toNat 31]; rfl)

theorem classify_low31First (w : Word) :
    classify .low31First w = if w.toNat % 2 ^ 31 ≠ 0 then .hw else .sw :=
  if_congr (and_low31_ne_zero_iff w) rfl rfl

theorem classify_topFirst (w : Word) : classify .topFirst w = if 2 ^ 31 ≤ w.toNat then .sw else .hw :=
  if_congr (getLsbD_31_iff w) rfl rfl

/-- Settles O36: the two orders of test differ only where bit 31 and a lower bit are both set. -/
theorem classificationsAgreeUnlessMixed : Obligations.ClassificationsAgreeUnlessMixed := by
  intro w hw
  have hpos : w.toNat ≠ 0 := fun h => hw (BitVec.eq_of_toNat_eq h)
  have hlt := w.isLt
  rw [classify_low31First, classify_topFirst]
  split_ifs with low top <;> simp <;> omega

/-! ## Recompute -/

/-- A refresh stores AGG and drives the line only with both gates closed (R124). -/
theorem recompute_false (s : State) :
    recompute false s = s.refreshAgg.drive (if bothGatesClosed s then .deassert else .hold) := rfl

/-- Everything a dispatch asks of the line, on the aggregate it stores (R124, R125). -/
theorem recompute_true (s : State) :
    recompute true s = s.refreshAgg.drive
      (if bothGatesClosed s then .deassert
        else if aggregate s = 0 then .deassert
        else if gateOpen s (classify s.cfg.irqClass (aggregate s)) then .assert
        else suppressAction s.cfg.suppressMode) := rfl

/-- The gate that IRQ_CLASS selects, written out (R126). -/
theorem gateOpen_classify_iff (s : State) (w : Word) :
    gateOpen s (classify s.cfg.irqClass w) = true ↔
      match s.cfg.irqClass with
      | .low31First => if w.toNat % 2 ^ 31 ≠ 0 then s.globalEnHw = true else s.globalEnSw = true
      | .topFirst => if 2 ^ 31 ≤ w.toNat then s.globalEnSw = true else s.globalEnHw = true := by
  cases s.cfg.irqClass
  · rw [classify_low31First]; split_ifs <;> rfl
  · rw [classify_topFirst]; split_ifs <;> rfl

/-- Settles O35: both forms of Recompute, at each test they make. -/
theorem recomputeDrivesTheLine : Obligations.RecomputeDrivesTheLine := by
  intro s
  refine ⟨fun hh hs b => ?_, fun hopen => ?_⟩
  · have hclosed : bothGatesClosed s = true := by simp [bothGatesClosed, hh, hs]
    cases b
    · rw [recompute_false, if_pos hclosed]; rfl
    · rw [recompute_true, if_pos hclosed]; rfl
  · have hclosed : ¬ bothGatesClosed s = true := by rcases hopen with h | h <;> simp [bothGatesClosed, h]
    refine ⟨?_, fun hz => ?_, fun hz hg => ?_, fun hz hg hm => ?_, fun hz hg hm => ?_⟩
    · rw [recompute_false, if_neg hclosed]; rfl
    all_goals rw [recompute_true, if_neg hclosed]
    · rw [if_pos hz]; rfl
    · rw [if_neg hz, if_pos ((gateOpen_classify_iff s _).mpr hg)]; rfl
    · rw [if_neg hz, if_neg (mt (gateOpen_classify_iff s _).mp hg), hm]; rfl
    · rw [if_neg hz, if_neg (mt (gateOpen_classify_iff s _).mp hg), hm]; rfl

end Sys2Proof.Machine
end

section
/-! Proofs about the clocks (42_clock_timer.md): divider packing (R94), and the frequency and period formulas (R96, R97). -/

namespace Sys2Proof.Machine

/-! ## Divider packing -/

/-- A packed divider, bit by bit (R94). -/
theorem packDivider_getLsbD (d : Divider) {j : Nat} (hj : j < 32) :
    (packDivider d).getLsbD j =
      if j < 8 then d.m.getLsbD j else if j < 16 then d.n.getLsbD (j - 8) else d.p.getLsbD (j - 16) := by
  simp only [packDivider, BitVec.getLsbD_or, BitVec.getLsbD_shiftLeft, BitVec.getLsbD_setWidth, hj]
  by_cases h8 : j < 8
  · simp [h8, show j < 16 by omega]
  · rw [BitVec.getLsbD_of_ge d.m j (by omega)]
    by_cases h16 : j < 16
    · simp [h8, h16, show j - 8 < 32 by omega]
    · rw [BitVec.getLsbD_of_ge d.n (j - 8) (by omega)]
      simp [h8, h16, show j - 16 < 32 by omega]

theorem packDivider_eq_append (d : Divider) : packDivider d = (d.p ++ d.n ++ d.m).setWidth 32 := by
  apply BitVec.eq_of_getLsbD_eq
  intro j hj
  rw [packDivider_getLsbD d hj, BitVec.getLsbD_setWidth, BitVec.getLsbD_append, BitVec.getLsbD_append]
  simp only [hj, decide_true, Bool.true_and, show j - 8 < 8 ↔ j < 16 by omega, show j - 8 - 8 = j - 16 by omega]

/-- Appending `n` bits multiplies by 2^n and adds them. -/
theorem toNat_append_eq_add {w n : Nat} (x : BitVec w) (y : BitVec n) :
    (x ++ y).toNat = x.toNat * 2 ^ n + y.toNat := by
  rw [BitVec.toNat_append, ← Nat.shiftLeft_add_eq_or_of_lt y.isLt, Nat.shiftLeft_eq]

theorem toNat_packDivider (d : Divider) :
    (packDivider d).toNat = d.p.toNat * 2 ^ 16 + d.n.toNat * 2 ^ 8 + d.m.toNat := by
  have hp := d.p.isLt
  have hn := d.n.isLt
  have hm := d.m.isLt
  rw [packDivider_eq_append, BitVec.toNat_setWidth, toNat_append_eq_add, toNat_append_eq_add]
  omega

theorem unpackDivider_packDivider (d : Divider) : unpackDivider (packDivider d) = d := by
  have hm : (packDivider d).extractLsb' 0 8 = d.m := by
    apply BitVec.eq_of_getLsbD_eq
    intro i hi
    simp [packDivider_getLsbD d (show i < 32 by omega), hi]
  have hn : (packDivider d).extractLsb' 8 8 = d.n := by
    ext i hi
    simp [packDivider_getLsbD d (show 8 + i < 32 by omega), hi, show 8 + i < 16 by omega]
  have hp : (packDivider d).extractLsb' 16 3 = d.p := by
    ext i hi
    simp [packDivider_getLsbD d (show 16 + i < 32 by omega), hi, show ¬ (16 + i < 8) by omega]
  rw [unpackDivider, hm, hn, hp]

theorem packDivider_unpackDivider (v : Word) : packDivider (unpackDivider v) = v &&& 0x0007FFFF := by
  apply BitVec.eq_of_getLsbD_eq
  intro j hj
  rw [packDivider_getLsbD _ hj, BitVec.getLsbD_and, show (0x0007FFFF : Word) = BitVec.ofNat 32 (2 ^ 19 - 1) from rfl,
    BitVec.getLsbD_ofNat, Nat.testBit_two_pow_sub_one]
  simp only [unpackDivider, BitVec.getLsbD_extractLsb', hj, decide_true, Bool.true_and]
  split_ifs with h8 h16
  · simp [h8, show j < 19 by omega]
  · simp [show j - 8 < 8 by omega, show 8 + (j - 8) = j by omega, show j < 19 by omega]
  · simp [show 16 + (j - 16) = j by omega, show j - 16 < 3 ↔ j < 19 by omega, Bool.and_comm]

/-- Settles O37: the packed word is the three fields side by side, so it unpacks to them. -/
theorem dividerPackingRoundTrips : Obligations.DividerPackingRoundTrips :=
  ⟨toNat_packDivider, unpackDivider_packDivider, packDivider_unpackDivider⟩

/-! ## Frequency and period -/

theorem posRatValue_pos (q : PosRat) : 0 < posRatValue q := by
  unfold posRatValue
  positivity

/-- The clamped multiplier and divisor of R96 lie between 1 and 255, and the post divider between 1 and 128. -/
theorem max_byte_le (b : Byte) : max b.toNat 1 ≤ 255 := by
  have := b.isLt
  omega

theorem frequency_mul_divisor (x : Nat) (d : Divider) :
    frequency x d * ((max d.m.toNat 1 : Nat) : Q) * 2 ^ d.p.toNat = (x : Q) * ((max d.n.toNat 1 : Nat) : Q) := by
  have hm : ((max d.m.toNat 1 : Nat) : Q) ≠ 0 := by positivity
  unfold frequency
  push_cast at hm ⊢
  field_simp

theorem frequency_pos {x : Nat} (hx : 0 < x) (d : Divider) : 0 < frequency x d := by
  have hn : 0 < x * max d.n.toNat 1 := by positivity
  have hm : 0 < max d.m.toNat 1 * 2 ^ d.p.toNat := by positivity
  exact div_pos (by exact_mod_cast hn) (by exact_mod_cast hm)

theorem frequency_ge (x : Nat) (d : Divider) : (x : Q) / (255 * 128) ≤ frequency x d := by
  have hp : 2 ^ d.p.toNat ≤ 2 ^ 7 := Nat.pow_le_pow_right (by decide) (by have := d.p.isLt; omega)
  have hdiv : max d.m.toNat 1 * 2 ^ d.p.toNat ≤ 255 * 128 := Nat.mul_le_mul (max_byte_le d.m) hp
  have hmul : x ≤ x * max d.n.toNat 1 := Nat.le_mul_of_pos_right x (by positivity)
  have hpos : 0 < max d.m.toNat 1 * 2 ^ d.p.toNat := by positivity
  exact div_le_div₀ (by positivity) (by exact_mod_cast hmul) (by exact_mod_cast hpos) (by exact_mod_cast hdiv)

theorem frequency_le (x : Nat) (d : Divider) : frequency x d ≤ (x : Q) * 255 := by
  have hmul : x * max d.n.toNat 1 ≤ x * 255 := Nat.mul_le_mul_left x (max_byte_le d.n)
  have hdiv : 1 ≤ max d.m.toNat 1 * 2 ^ d.p.toNat := Nat.succ_le_of_lt (by positivity)
  calc frequency x d ≤ ((x * max d.n.toNat 1 : Nat) : Q) := div_le_self (by positivity) (by exact_mod_cast hdiv)
    _ ≤ (x : Q) * 255 := by exact_mod_cast hmul

/-- R97: the period is positive under a positive crystal. -/
theorem timerPeriod_pos {c : Config} (hc : 0 < c.crystalHz) (d : Divider) : 0 < timerPeriod c d :=
  div_pos (mul_pos (by norm_num) (posRatValue_pos _)) (frequency_pos hc d)

theorem timerPeriod_mul_frequency {c : Config} (hc : 0 < c.crystalHz) (d : Divider) :
    timerPeriod c d * frequency c.crystalHz d * ((c.fixQuotient.denPred : Q) + 1) =
      1000000 * ((c.fixQuotient.numPred : Q) + 1) := by
  have hf := (frequency_pos hc d).ne'
  have hq : (c.fixQuotient.denPred : Q) + 1 ≠ 0 := by positivity
  rw [timerPeriod, div_mul_cancel₀ _ hf, posRatValue]
  push_cast
  field_simp

/-- Settles O38: the formula cleared of its denominator, its two bounds, and the period from it. -/
theorem frequencyAndPeriodFormulas : Obligations.FrequencyAndPeriodFormulas :=
  fun _ d hc => ⟨frequency_mul_divisor _ d, frequency_ge _ d, frequency_le _ d, frequency_pos hc d,
    timerPeriod_mul_frequency hc d, timerPeriod_pos hc d⟩

end Sys2Proof.Machine
end

section
/-! What an access can do, said once: a predicate that the arbiter's primitive steps keep is kept by every MMIO and RMA
transaction; and what every other transaction leaves. -/

namespace Sys2Proof.Machine

/-! ## Reads -/

/-- `P` is kept by everything a read can do: a call, an answer taken, the refresh of AGG (R77), the response. -/
structure ReadsKeep (P : State → Prop) : Prop where
  emit : ∀ {s} c, P s → P (s.emit c)
  answer : ∀ {s}, P s → P s.afterAnswer
  refresh : ∀ {s}, P s → P (recompute false s)
  respond : ∀ {s} x, P s → P (s.respond x)

namespace ReadsKeep

variable {P : State → Prop} (K : ReadsKeep P) {s : State}
include K

theorem ask (c : Call) (h : P s) : P (s.ask c).2 := K.answer (K.emit c h)

theorem readReg (r : Reg) (h : P s) : P (readReg r s).2 := by
  cases r
  case pmcIntr0 => exact K.refresh h
  all_goals exact h

theorem read32 (a : Addr) (h : P s) : P (read32 a s).2 := by
  unfold Machine.read32
  split
  case h_2 => exact K.ask _ h
  case h_5 => exact K.readReg _ h
  all_goals exact h

theorem vgaRead (a : Addr) (n : Nat) (h : P s) : P (vgaRead a n s).2 := by
  induction n with
  | zero => exact h
  | succ n ih => exact K.ask _ ih

theorem memRead8 (a : Addr) (h : P s) : P (memRead8 a s).2 := by
  unfold Machine.memRead8
  split
  · exact K.vgaRead a 1 h
  · exact K.read32 _ h

theorem memRead16 (a : Addr) (h : P s) : P (memRead16 a s).2 := by
  unfold Machine.memRead16
  split
  · exact K.vgaRead a 2 h
  · exact K.read32 _ h

theorem memRead32 (a : Addr) (h : P s) : P (memRead32 a s).2 := by
  unfold Machine.memRead32
  split
  · exact K.vgaRead a 4 h
  · exact K.read32 _ h

theorem rmaReadByte (t : Word) (h : P s) : P (rmaReadByte t s).2 := by
  unfold Machine.rmaReadByte
  split
  · exact K.memRead8 _ h
  · exact K.ask _ h

theorem rmaRead (p : Byte) (h : P s) : P (rmaRead p s).2 := by
  unfold Machine.rmaRead
  split
  case h_2 =>
    split
    · exact K.rmaReadByte _ h
    · exact h
  all_goals exact h

end ReadsKeep

/-! ## Writes -/

/-- An access ends at a register only while the gate of the register's subsystem is open (R71). -/
theorem gateClosed_of_route {s : State} {a : Addr} {r : Reg} (h : route s a = .register r) :
    gateClosed s (regOwner r) = false := by
  unfold route at h
  split at h
  case h_1 => cases h
  case h_2 => cases h
  case h_3 t _ =>
    split at h
    case isTrue => cases h
    case isFalse hg =>
      split at h
      case h_1 => cases h
      case h_2 r' hr =>
        cases h
        obtain ⟨e, he, rfl⟩ := Option.map_eq_some_iff.mp hr
        have howner := List.find?_some he
        simp only [Bool.and_eq_true, decide_eq_true_eq] at howner
        simpa [howner.2] using hg

/-- An access takes `P` to `Q`: reads and the shifter's own bytes keep `P`, the one register write leads to `Q`, and nothing
after it leaves `Q` (R89 to R91, R112 to R114). -/
structure WritesLead (P Q : State → Prop) : Prop extends ReadsKeep P where
  weaken : ∀ {s}, P s → Q s
  write : ∀ {s} r v, P s → gateClosed s (regOwner r) = false → Q (writeReg r v s)
  shift : ∀ {s} addr data saved (n : Fin 5), (n = s.rmaDcount ∨ n.val < 4) → P s →
    P { s with rmaAddr := addr, rmaData := data, rmaSave := saved, rmaDcount := n }
  advance : ∀ {s} addr, Q s → Q { s with rmaAddr := addr }
  answered : ∀ {s} x, Q s → Q (s.respond x)

namespace WritesLead

variable {P Q : State → Prop} (L : WritesLead P Q) {s : State}
include L

theorem write32 (a : Addr) (v : Word) (h : P s) : Q (write32 a v s) := by
  unfold Machine.write32
  split
  case h_2 => exact L.weaken (L.emit _ h)
  case h_5 r hr => exact L.write r v h (gateClosed_of_route hr)
  all_goals exact L.weaken h

theorem vgaWrite (a : Addr) (v : Word) (n : Nat) (h : P s) : P (vgaWrite a v n s) := by
  induction n with
  | zero => exact h
  | succ n ih => exact L.emit _ ih

theorem memWrite8 (a : Addr) (b : Byte) (h : P s) : Q (memWrite8 a b s) := by
  unfold Machine.memWrite8
  split
  · exact L.weaken (L.vgaWrite a _ 1 h)
  · exact L.write32 _ _ (L.read32 _ h)

theorem memWrite16 (a : Addr) (v : Half) (h : P s) : Q (memWrite16 a v s) := by
  unfold Machine.memWrite16
  split
  · exact L.weaken (L.vgaWrite a _ 2 h)
  · exact L.write32 _ _ (L.read32 _ h)

theorem memWrite32 (a : Addr) (v : Word) (h : P s) : Q (memWrite32 a v s) := by
  unfold Machine.memWrite32
  split
  · exact L.weaken (L.vgaWrite a _ 4 h)
  · exact L.write32 _ _ h

theorem rmaTxn (h : P s) : Q (rmaTxn s) := by
  have hword : Q (rmaWriteWord s.rmaAddr s.rmaData s) := by
    unfold rmaWriteWord
    split
    · exact L.memWrite32 _ _ h
    · exact L.weaken (L.emit _ h)
  unfold Machine.rmaTxn autoIncrement
  split
  · exact L.advance _ hword
  · exact hword

theorem trigger (k : Fin 4) (h : P s) : P (trigger k s).2 := by
  unfold Machine.trigger
  split
  · exact h
  · refine L.shift s.rmaAddr s.rmaData s.rmaSave (nextDcount s.rmaDcount) (.inr ?_) h
    generalize s.rmaDcount = n
    revert n
    decide

theorem rmaWrite (p b : Byte) (h : P s) : Q (rmaWrite p b s) := by
  unfold Machine.rmaWrite
  split
  case isFalse => exact L.weaken h
  case isTrue =>
    split
    case h_1 k _ => exact L.weaken (L.shift (setLane s.rmaAddr k.val b) s.rmaData (s.rmaSave.set k.val b) _ (.inl rfl) h)
    case h_2 k _ =>
      have hbyte : P (rmaDataByte k b s) :=
        L.shift s.rmaAddr (setLane s.rmaData k.val b) (s.rmaSave.set k.val b) _ (.inl rfl) h
      unfold completeIf
      split
      · exact L.rmaTxn (L.trigger k hbyte)
      · exact L.weaken (L.trigger k hbyte)
    case h_3 => exact L.weaken h

end WritesLead

/-! ## Transactions -/

/-- What a transaction that runs to completion returns, and the state it leaves (R62). -/
def effect (i : Instr) (s : State) : Response × State :=
  match i with
  | .mmioRd8 a => dataResponse (memRead8 a s)
  | .mmioRd16 a => dataResponse (memRead16 a s)
  | .mmioRd32 a => dataResponse (memRead32 a s)
  | .mmioWr8 a b => (.none, memWrite8 a b s)
  | .mmioWr16 a h => (.none, memWrite16 a h s)
  | .mmioWr32 a v => (.none, memWrite32 a v s)
  | .rmaIn p => (.byte (rmaRead p s).1, (rmaRead p s).2)
  | .rmaOut p b => (.none, rmaWrite p b s)
  | .rmaModeWr b => (.none, { s with rmaMode := b })
  | .tickVclk _ => (.none, s)
  | .tickMclk e => (.none, tickMclk e s)
  | .raiseIntr S mask => (.none, raiseStatus S mask s)
  | .grPending g0 g1 => (.none, recompute true { s with gr0Pend := g0, gr1Pend := g1 })
  | .reset => (.none, resetBlock s)
  | .teardown => (.none, { destroyTimer .mclk (destroyTimer .vclk s) with dead := true })

/-- The state after a transaction that runs to completion, its response recorded. -/
def finish (i : Instr) (s : State) : State := (effect i s).2.respond (effect i s).1

/-- Everything `exec` can answer: stuck while DEAD unless RESET (R120), refused if ill formed (R64), and otherwise the
transaction's effect (R18). -/
theorem exec_eq (i : Instr) (s : State) :
    exec i s =
      if s.dead = true ∧ i ≠ .reset then .fault .stuckAfterTeardown
      else if i.wellFormed = true then .next (finish i s)
      else .refused (refuseIllegal .nonPositiveElapsed s) := by
  cases i
  case reset => rw [if_neg fun h => h.2 rfl]; rfl
  case tickVclk e | tickMclk e =>
    by_cases hd : s.dead = true
    · rw [if_pos ⟨hd, nofun⟩]; exact if_pos hd
    · rw [if_neg fun h => hd h.1]; exact if_neg hd
  all_goals
    by_cases hd : s.dead = true
    · rw [if_pos ⟨hd, nofun⟩]; exact if_pos hd
    · rw [if_neg fun h => hd h.1]; exact if_neg hd

theorem exec_of_live {i : Instr} {s : State} (hw : i.wellFormed = true) (hd : s.dead = false) :
    exec i s = .next (finish i s) := by
  rw [exec_eq, if_neg (by simp [hd]), if_pos hw]

theorem exec_next {i : Instr} {s t : State} (h : exec i s = .next t) : t = finish i s := by
  rw [exec_eq] at h
  split_ifs at h
  exact (Host.Outcome.next.inj h).symm

/-- Every read keeps what the parts of a read keep. -/
theorem ReadsKeep.finish {P : State → Prop} (K : ReadsKeep P) {i : Instr} {s : State} (hi : isRead i = true)
    (h : P s) : P (finish i s) := by
  refine K.respond _ ?_
  cases i <;> cases hi
  case mmioRd8 a => exact K.memRead8 a h
  case mmioRd16 a => exact K.memRead16 a h
  case mmioRd32 a => exact K.memRead32 a h
  case rmaIn p => exact K.rmaRead p h

/-- The transactions that access registers or memory: MMIO and RMA, but for the mode byte. -/
def isAccess : Instr → Bool
  | .mmioRd8 _ | .mmioRd16 _ | .mmioRd32 _ | .mmioWr8 _ _ | .mmioWr16 _ _ | .mmioWr32 _ _ => true
  | .rmaIn _ | .rmaOut _ _ => true
  | .rmaModeWr _ | .tickVclk _ | .tickMclk _ | .raiseIntr _ _ | .grPending _ _ | .reset | .teardown => false

/-- Every access leads where its parts lead. -/
theorem WritesLead.finish {P Q : State → Prop} (L : WritesLead P Q) {i : Instr} {s : State} (hi : isAccess i = true)
    (h : P s) : Q (finish i s) := by
  cases i <;> cases hi
  case mmioRd8 | mmioRd16 | mmioRd32 | rmaIn => exact L.weaken (L.toReadsKeep.finish rfl h)
  case mmioWr8 a b => exact L.answered _ (L.memWrite8 a b h)
  case mmioWr16 a v => exact L.answered _ (L.memWrite16 a v h)
  case mmioWr32 a v => exact L.answered _ (L.memWrite32 a v h)
  case rmaOut p b => exact L.answered _ (L.rmaWrite p b h)

/-! ## Steps -/

section
variable {s : State} {t : Txn} {rest : List Txn} (hr : s.refused = false) (hw : s.cfg.wellFormed = true)
  (hi : s.inbox = t :: rest)
include hr hw hi

/-- A legal record at the head of the inbox is taken off and runs (R18). -/
theorem step_of_decode_ok {i : Instr} (h : decode t = .ok i) : step s = exec i { s with inbox := rest } := by
  simp [step, fetch, hr, hw, hi, h]

/-- An illegal record at the head of the inbox is taken off, and is stuck while DEAD, refused otherwise (R64, R120). -/
theorem step_of_decode_error {e : Illegal} (h : decode t = .error e) :
    step s =
      if s.dead = true then .fault .stuckAfterTeardown
      else .refused (refuseIllegal e { s with inbox := rest }) := by
  cases hd : s.dead <;> simp [step, fetch, fetchIllegal, hr, hw, hi, h, hd]

end

theorem step_of_refused {s : State} (h : s.refused = true) : step s = .refused .refusedForGood := by
  simp [step, fetch, h]

theorem step_of_illFormed {s : State} (hr : s.refused = false) (hw : s.cfg.wellFormed = false) :
    step s = .refused .illFormedConfiguration := by
  simp [step, fetch, hr, hw]

theorem step_of_empty {s : State} (hr : s.refused = false) (hw : s.cfg.wellFormed = true) (hi : s.inbox = []) :
    step s = .fault .endOfRun := by
  simp [step, fetch, hr, hw, hi]

/-- A step that completes runs a transaction on the state with the head of the inbox taken off, under a well-formed
configuration (R11, R18). -/
theorem step_next {s t : State} (h : step s = .next t) :
    s.cfg.wellFormed = true ∧ ∃ i rest, t = finish i { s with inbox := rest } := by
  by_cases hr : s.refused = true
  · rw [step_of_refused hr] at h; cases h
  rw [Bool.not_eq_true] at hr
  by_cases hw : s.cfg.wellFormed = true
  case neg => rw [step_of_illFormed hr (Bool.eq_false_of_not_eq_true hw)] at h; cases h
  cases hi : s.inbox with
  | nil => rw [step_of_empty hr hw hi] at h; cases h
  | cons x rest =>
    cases hx : decode x with
    | ok i =>
      rw [step_of_decode_ok hr hw hi hx] at h
      exact ⟨hw, i, rest, exec_next h⟩
    | error e =>
      rw [step_of_decode_error hr hw hi hx] at h
      split at h <;> cases h

end Sys2Proof.Machine
end

section
/-! Invariants of the interrupt line (60_exceptions.md R124, R125, R129): what every step keeps of AGG and LINE. -/

namespace Sys2Proof.Machine

/-! ## The pairs -/

theorem w1c_pair (S P : PairSource) (v : Word) (s : State) :
    (w1c S v s).pair P = if P = S then ⟨(s.pair S).status &&& ~~~v, (s.pair S).enable⟩ else s.pair P := by
  simp [w1c, State.setStatus_pair]

theorem raiseStatus_pair (S P : PairSource) (mask : Word) (s : State) :
    (raiseStatus S mask s).pair P = if P = S then ⟨(s.pair S).status ||| mask, (s.pair S).enable⟩ else s.pair P := by
  simp [raiseStatus, State.setStatus_pair]

/-- The memory clock's tick touches no pair but the timer's own (R101). -/
theorem tickMclk_pair {S : PairSource} (h : S ≠ .ptimer) (e : Q) (s : State) : (tickMclk e s).pair S = s.pair S := by
  rw [(tickFrame_tickMclk e s).1]
  cases S
  case ptimer => exact absurd rfl h
  all_goals rfl

/-! ## Program(g) and RESET -/

/-- Program(g) touches nothing but the host timers and the calls (R98). -/
theorem programTimer_eq (g : Gen) (s : State) :
    programTimer g s =
      { s with
        vclkTimer := (programTimer g s).vclkTimer
        mclkTimer := (programTimer g s).mclkTimer
        calls := (programTimer g s).calls } := by
  unfold programTimer
  cases g <;> (dsimp only; split <;> rfl)

theorem programTimer_timer (g k : Gen) (s : State) :
    (programTimer g s).timer k =
      if k = g then
        (if (s.timer g).created then { s.timer g with period := timerPeriod s.cfg (s.divider g) }
          else ⟨true, true, timerPeriod s.cfg (s.divider g)⟩)
      else s.timer k := by
  unfold programTimer
  dsimp only
  split <;> simp [State.setTimer_timer]

theorem programTimer_calls (g : Gen) (s : State) :
    (programTimer g s).calls = s.calls ++
      (if (s.timer g).created then [.timerSetPeriod g (timerPeriod s.cfg (s.divider g))]
        else [.timerCreate g (timerPeriod s.cfg (s.divider g)), .timerStart g]) := by
  unfold programTimer
  dsimp only
  split <;> simp

/-- The state RESET leaves before it programs the timers (R141). -/
def clearedByReset (s : State) : State := (resetElements (callDestroy .mclk (callDestroy .vclk s))).drive .deassert

theorem callDestroy_calls (g : Gen) (s : State) :
    (callDestroy g s).calls = s.calls ++ (if (s.timer g).created then [.timerDestroy g] else []) := by
  unfold callDestroy
  split <;> simp

/-- Every element at its reset value, the created timers destroyed and the line deasserted (R141, R142). -/
theorem clearedByReset_eq (s : State) :
    clearedByReset s =
      { State.atReset s.cfg with
        refused := s.refused, inbox := s.inbox, answers := s.answers, drawCount := s.drawCount, response := s.response
        calls := s.calls ++ (if s.vclkTimer.created then [.timerDestroy .vclk] else []) ++
          (if s.mclkTimer.created then [.timerDestroy .mclk] else []) ++ [.irqDeassert] } := by
  simp only [clearedByReset, resetElements, State.drive, State.emit, callDestroy_cfg, callDestroy_refused,
    callDestroy_inbox, callDestroy_answers, callDestroy_drawCount, callDestroy_response, callDestroy_calls,
    callDestroy_timer]
  rfl

theorem clearedByReset_calls (s : State) :
    (clearedByReset s).calls =
      s.calls ++ (if s.vclkTimer.created then [.timerDestroy .vclk] else []) ++
        (if s.mclkTimer.created then [.timerDestroy .mclk] else []) ++ [.irqDeassert] := by
  rw [clearedByReset_eq]

theorem resetBlock_eq (s : State) :
    resetBlock s =
      if s.cfg.timersAtReset then programTimer .mclk (programTimer .vclk (clearedByReset s)) else clearedByReset s := by
  have hcfg : (clearedByReset s).cfg = s.cfg := by rw [clearedByReset_eq]; rfl
  rw [← hcfg]; rfl

/-- But for the host timers and the calls, RESET leaves what `clearedByReset` leaves. -/
theorem resetBlock_frame (s : State) :
    resetBlock s =
      { clearedByReset s with
        vclkTimer := (resetBlock s).vclkTimer
        mclkTimer := (resetBlock s).mclkTimer
        calls := (resetBlock s).calls } := by
  rw [resetBlock_eq]
  split
  · rw [programTimer_eq, programTimer_eq .vclk]
  · rfl

@[simp] theorem resetBlock_cfg (s : State) : (resetBlock s).cfg = s.cfg := by
  rw [resetBlock_frame, clearedByReset_eq]; rfl

@[simp] theorem resetBlock_pair (s : State) (S : PairSource) : (resetBlock s).pair S = ⟨0, 0⟩ := by
  rw [resetBlock_frame, clearedByReset_eq]; cases S <;> rfl

theorem aggregate_of_nothing_pending {s : State} (h : ∀ x, pendingWord s x = 0) : aggregate s = 0 := by
  simp [aggregate, allSources, addPending, h]

/-- Nothing is pending after RESET (R142). -/
theorem aggregate_resetBlock (s : State) : aggregate (resetBlock s) = 0 := by
  have hpair : ∀ S, pairPending ((resetBlock s).pair S) = 0 := by simp [pairPending]
  refine aggregate_of_nothing_pending fun x => ?_
  cases x
  case mediaport => exact hpair .pme
  case fifo => exact hpair .pfifo
  case video => exact hpair .pvideo
  case timer => exact hpair .ptimer
  case bus => exact hpair .pbus
  all_goals rw [resetBlock_frame, clearedByReset_eq]; rfl

/-! ## What the interrupt line depends on -/

/-- `t` agrees with `s` in everything the aggregator reads or writes: the sources, the gates, AGG and LINE. -/
structure SameIrq (s t : State) : Prop where
  cfg : t.cfg = s.cfg
  agg : t.agg = s.agg
  line : t.line = s.line
  hw : t.globalEnHw = s.globalEnHw
  sw : t.globalEnSw = s.globalEnSw
  pme : t.pme = s.pme
  pfifo : t.pfifo = s.pfifo
  pvideo : t.pvideo = s.pvideo
  ptimer : t.ptimer = s.ptimer
  pbus : t.pbus = s.pbus
  gr0 : t.gr0Pend = s.gr0Pend
  gr1 : t.gr1Pend = s.gr1Pend
  swStatus : t.swStatus = s.swStatus

namespace SameIrq

variable {s t : State} (h : SameIrq s t)
include h

theorem pair (S : PairSource) : t.pair S = s.pair S := by
  cases S
  · exact h.pme
  · exact h.pfifo
  · exact h.pvideo
  · exact h.ptimer
  · exact h.pbus

theorem aggregate_eq : aggregate t = aggregate s :=
  aggregate_congr (by rw [h.cfg]) h.pair h.gr0 h.gr1 h.swStatus

theorem bothGatesClosed_eq : bothGatesClosed t = bothGatesClosed s := bothGatesClosed_congr h.hw h.sw

theorem aggFresh_iff : AggFresh t ↔ AggFresh s := by rw [AggFresh, AggFresh, h.agg, h.aggregate_eq]

theorem lineJustified_iff : LineJustified t ↔ LineJustified s := by
  rw [LineJustified, LineJustified, h.agg, h.bothGatesClosed_eq, h.cfg, gateOpen_congr h.hw h.sw]

end SameIrq

/-- A predicate that every step keeps: it reads only the aggregator's view, every dispatch leads to it, a refresh keeps it,
and it holds of the quiet line that RESET leaves. -/
structure IrqInvariant (P : State → Prop) : Prop where
  congr : ∀ {s t}, SameIrq s t → P s → P t
  dispatch : ∀ {s t}, P s → t.cfg = s.cfg → P (recompute true t)
  refresh : ∀ {s}, P s → P (recompute false s)
  quiet : ∀ {s t}, P s → t.cfg = s.cfg → t.agg = 0 → aggregate t = 0 → t.line = false → P t

namespace IrqInvariant

variable {P : State → Prop} (I : IrqInvariant P)
include I

theorem writeReg {s : State} (r : Reg) (v : Word) (h : P s) : P (writeReg r v s) := by
  cases r
  case pmcIntr0 =>
    simp only [Machine.writeReg, writePmcIntr]
    split
    · exact I.dispatch h rfl
    · exact h
  case pmcIntrEn0 => exact I.dispatch h rfl
  case intr S => exact I.dispatch h (by simp)
  case intrEn S => exact I.dispatch h (by simp)
  case coeff g => exact I.congr (by constructor <;> simp [Machine.writeReg, writeCoeff]) h
  case pmcBoot0 | pextdevBoot0 => exact h
  all_goals exact I.congr (by constructor <;> rfl) h

theorem writesLead : WritesLead P P where
  emit c h := I.congr (by constructor <;> simp) h
  answer h := I.congr (by constructor <;> simp) h
  refresh h := I.refresh h
  respond x h := I.congr (by constructor <;> simp) h
  weaken h := h
  write r v h _ := I.writeReg r v h
  shift _ _ _ _ _ h := I.congr (by constructor <;> rfl) h
  advance _ h := I.congr (by constructor <;> rfl) h
  answered x h := I.congr (by constructor <;> simp) h

theorem tickMclk {s : State} (e : Q) (h : P s) : P (tickMclk e s) := by
  have htime : P (advanceTime e s) := I.congr (by constructor <;> simp) h
  unfold Machine.tickMclk evaluateAlarm
  split
  · split
    · exact I.dispatch htime (by simp)
    · exact htime
  · exact h

theorem resetBlock {s : State} (h : P s) : P (resetBlock s) := by
  refine I.quiet h (resetBlock_cfg s) ?_ (aggregate_resetBlock s) ?_ <;> rw [resetBlock_frame, clearedByReset_eq] <;> rfl

theorem effect_of_not_access {s : State} {i : Instr} (hi : isAccess i = false) (h : P s) : P (effect i s).2 := by
  cases i <;> cases hi
  case rmaModeWr b => exact I.congr (by constructor <;> rfl) h
  case tickVclk e => exact h
  case tickMclk e => exact I.tickMclk e h
  case raiseIntr S mask => exact I.dispatch h (by simp)
  case grPending g0 g1 => exact I.dispatch h rfl
  case reset => exact I.resetBlock h
  case teardown => exact I.congr (by constructor <;> simp [effect]) h

/-- Every transaction that completes keeps it. -/
theorem finish {s : State} (i : Instr) (h : P s) : P (finish i s) := by
  cases hi : isAccess i
  · exact I.writesLead.answered _ (I.effect_of_not_access hi h)
  · exact I.writesLead.finish hi h

/-- And so does every step: taking the head of the inbox off changes nothing that the invariant reads. -/
theorem step {s t : State} (h : P s) (hs : step s = .next t) : P t := by
  obtain ⟨-, i, rest, rfl⟩ := step_next hs
  exact I.finish i (I.congr (by constructor <;> rfl) h)

end IrqInvariant

/-! ## The three invariants -/

theorem bothGatesClosed_recompute (b : Bool) (s : State) : bothGatesClosed (recompute b s) = bothGatesClosed s :=
  bothGatesClosed_congr (by simp) (by simp)

theorem lineJustified_recompute (b : Bool) (s : State) :
    LineJustified (recompute b s) ↔
      aggregate s ≠ 0 ∧ bothGatesClosed s = false ∧ gateOpen s (classify s.cfg.irqClass (aggregate s)) = true := by
  rw [LineJustified, recompute_agg, recompute_cfg, bothGatesClosed_recompute,
    gateOpen_congr (recompute_globalEnHw b s) (recompute_globalEnSw b s)]

/-- Where a dispatch leaves the line (R124, R125): high exactly if that is justified, but that HOLD leaves it as it was while
the selected gate is closed over a nonzero aggregate. -/
theorem dispatch_line (s : State) :
    ((recompute true s).line = true ↔ LineJustified (recompute true s)) ∨
      (s.cfg.suppressMode = .hold ∧ (recompute true s).agg ≠ 0 ∧ bothGatesClosed (recompute true s) = false ∧
        ¬ LineJustified (recompute true s) ∧ (recompute true s).line = s.line) := by
  simp only [lineJustified_recompute, recompute_agg, bothGatesClosed_recompute]
  rw [recompute_true, State.drive_line]
  cases hclosed : bothGatesClosed s
  case true => simp [LineAction.level]
  by_cases hz : aggregate s = 0
  · simp [hz, LineAction.level]
  rw [if_neg hz]
  cases hgate : gateOpen s (classify s.cfg.irqClass (aggregate s))
  case true => exact .inl ⟨fun _ => ⟨hz, rfl, rfl⟩, fun _ => rfl⟩
  cases hmode : s.cfg.suppressMode
  case deassert => exact .inl ⟨fun h => Bool.noConfusion h, fun h => Bool.noConfusion h.2.2⟩
  case hold => exact .inr ⟨rfl, hz, rfl, fun h => Bool.noConfusion h.2.2, rfl⟩

/-- Over a fresh AGG a refresh can only drive the line low, and only with both gates closed (R124). -/
theorem recompute_false_of_aggFresh {s : State} (h : AggFresh s) :
    recompute false s = s.drive (if bothGatesClosed s then .deassert else .hold) := by
  rw [recompute_false, State.refreshAgg, ← h]

theorem aggFresh_recompute (b : Bool) (s : State) : AggFresh (recompute b s) := by
  rw [AggFresh, recompute_agg, aggregate_recompute]

theorem aggFresh_invariant : IrqInvariant AggFresh where
  congr h := h.aggFresh_iff.mpr
  dispatch _ _ := aggFresh_recompute _ _
  refresh _ := aggFresh_recompute _ _
  quiet _ _ hz ha _ := hz.trans ha.symm

theorem lineLaw_of_lineExact {s : State} (h : LineExact s) : LineLaw s := by
  have low : ¬ LineJustified s → s.line = false := fun hj => Bool.eq_false_of_not_eq_true (mt h.mp hj)
  exact ⟨fun hz => low fun hj => hj.1 hz, fun hc => low fun hj => Bool.false_ne_true (hj.2.1.symm.trans hc), h.mpr⟩

/-- A low line is exact where nothing is pending or both gates are closed. -/
theorem lineExact_of_low {s : State} (hline : s.line = false) (h : s.agg = 0 ∨ bothGatesClosed s = true) :
    LineExact s := by
  rcases h with h | h <;> simp [LineExact, LineJustified, hline, h]

/-- The law that holds under either SUPPRESS_MODE is kept: HOLD leaves the line only where the law asks nothing of it. -/
theorem lineLaw_invariant : IrqInvariant fun s => AggFresh s ∧ LineLaw s where
  congr h := fun ⟨hf, hl⟩ => ⟨h.aggFresh_iff.mpr hf, by
    rwa [LineLaw, h.agg, h.line, h.bothGatesClosed_eq, h.lineJustified_iff]⟩
  dispatch {_ t} _ _ := by
    refine ⟨aggFresh_recompute _ _, ?_⟩
    rcases dispatch_line t with hexact | ⟨-, hz, hclosed, hj, -⟩
    · exact lineLaw_of_lineExact hexact
    · exact ⟨fun h => absurd h hz, fun h => by simp [hclosed] at h, fun h => absurd h hj⟩
  refresh := by
    rintro s ⟨hf, hl⟩
    refine ⟨aggFresh_recompute _ _, ?_⟩
    rw [recompute_false_of_aggFresh hf]
    split
    case isTrue hclosed => exact lineLaw_of_lineExact (lineExact_of_low rfl (.inr hclosed))
    case isFalse => exact hl
  quiet _ _ hz ha hline := ⟨hz.trans ha.symm, lineLaw_of_lineExact (lineExact_of_low hline (.inl hz))⟩

/-- Under DEASSERT no case is left in which the line is not exact. -/
theorem lineExact_invariant : IrqInvariant fun s => s.cfg.suppressMode = .deassert ∧ AggFresh s ∧ LineExact s where
  congr h := fun ⟨hm, hf, hl⟩ => ⟨h.cfg ▸ hm, h.aggFresh_iff.mpr hf, by
    rwa [LineExact, h.line, h.lineJustified_iff]⟩
  dispatch := by
    rintro s t ⟨hm, -, -⟩ hcfg
    refine ⟨by rw [recompute_cfg, hcfg, hm], aggFresh_recompute _ _, ?_⟩
    rcases dispatch_line t with hexact | ⟨hhold, -⟩
    · exact hexact
    · rw [hcfg, hm] at hhold; cases hhold
  refresh := by
    rintro s ⟨hm, hf, hl⟩
    refine ⟨by rw [recompute_cfg, hm], aggFresh_recompute _ _, ?_⟩
    rw [recompute_false_of_aggFresh hf]
    split
    case isTrue hclosed => exact lineExact_of_low rfl (.inr hclosed)
    case isFalse => exact hl
  quiet := fun ⟨hm, _⟩ hcfg hz ha hline => ⟨hcfg ▸ hm, hz.trans ha.symm, lineExact_of_low hline (.inl hz)⟩

/-- Settles O56: AGG is stored fresh by every Recompute and by RESET, and nothing else touches a source without one. -/
theorem stepKeepsTheAggregateFresh : Obligations.StepKeepsTheAggregateFresh :=
  fun _ _ hf hs => aggFresh_invariant.step hf hs

/-- Settles O57: the law is an invariant together with the fresh AGG that it speaks of. -/
theorem stepKeepsTheLineLaw : Obligations.StepKeepsTheLineLaw :=
  fun _ _ hf hl hs => (lineLaw_invariant.step ⟨hf, hl⟩ hs).2

/-- Settles O58: exactness is an invariant together with the fresh AGG and the mode, a parameter. -/
theorem stepKeepsTheLineExact : Obligations.StepKeepsTheLineExact :=
  fun _ _ hm hf hl hs => (lineExact_invariant.step ⟨hm, hf, hl⟩ hs).2.2

end Sys2Proof.Machine
end

section
/-! Invariants of the records (10_state.md), who can change a pair of interrupt words (R71, R117), and the state after
reset. -/

namespace Sys2Proof.Machine

/-! ## Who sets a status bit -/

theorem writeReg_pair (r : Reg) (v : Word) (s : State) (S : PairSource) :
    (writeReg r v s).pair S =
      if r = .intr S then ⟨(s.pair S).status &&& ~~~v, (s.pair S).enable⟩
      else if r = .intrEn S then ⟨(s.pair S).status, v⟩
      else s.pair S := by
  cases r
  case intr P =>
    rw [show writeReg (.intr P) v s = w1c P v s from rfl, w1c_pair]
    by_cases h : S = P
    · subst h; simp
    · simp [h, Ne.symm h]
  case intrEn P =>
    rw [show writeReg (.intrEn P) v s = recompute true (s.setEnable P v) from rfl, recompute_pair, State.setEnable_pair]
    by_cases h : S = P
    · subst h; simp
    · simp [h, Ne.symm h]
  case pmcIntr0 =>
    simp only [writeReg, writePmcIntr]
    split
    · cases S <;> simp [State.pair]
    · simp
  case pmcIntrEn0 => cases S <;> simp [writeReg, writePmcIntrEn, State.pair]
  case coeff g => simp [writeReg, writeCoeff]
  all_goals cases S <;> rfl

/-- A status bit that is clear stays clear through every access: a write to the word itself can only clear bits (R127). -/
theorem clearBit_writesLead (S : PairSource) (k : Nat) :
    WritesLead (fun s => (s.pair S).status.getLsbD k = false) (fun s => (s.pair S).status.getLsbD k = false) where
  emit c h := by simpa using h
  answer h := by simpa using h
  refresh h := by simpa using h
  respond x h := by simpa using h
  weaken h := h
  write r v h _ := by
    rw [writeReg_pair]
    split_ifs
    · rw [BitVec.getLsbD_and, h, Bool.false_and]
    · exact h
    · exact h
  shift _ _ _ _ _ h := by cases S <;> exact h
  advance _ h := by cases S <;> exact h
  answered x h := by simpa using h

theorem effect_keeps_clearBit {i : Instr} {s : State} {S : PairSource} {k : Nat} (hi : isAccess i = false)
    (hS : S ≠ .ptimer) (hr : ∀ mask, i = .raiseIntr S mask → mask.getLsbD k = false)
    (h : (s.pair S).status.getLsbD k = false) : ((effect i s).2.pair S).status.getLsbD k = false := by
  cases i <;> cases hi
  case rmaModeWr b => cases S <;> exact h
  case tickVclk e => exact h
  case tickMclk e => rwa [effect, tickMclk_pair hS]
  case raiseIntr P mask =>
    rw [effect, raiseStatus_pair]
    split_ifs with heq
    · subst heq
      rw [BitVec.getLsbD_or, h, hr mask rfl, Bool.false_or]
    · exact h
  case grPending g0 g1 => rw [effect, recompute_pair]; cases S <;> exact h
  case reset => rw [effect, resetBlock_pair]; exact BitVec.getLsbD_zero
  case teardown => cases S <;> simpa [effect, State.pair] using h

/-- Settles O54: every other transaction leaves a clear bit clear. -/
theorem onlyRaiseSetsAStatusBit : Obligations.OnlyRaiseSetsAStatusBit := by
  intro i s t S k hS he hclear hset
  by_contra hraise
  have hr : ∀ mask, i = .raiseIntr S mask → mask.getLsbD k = false :=
    fun mask hi => Bool.eq_false_of_not_eq_true fun hk => hraise ⟨mask, hi, hk⟩
  have hkept : (t.pair S).status.getLsbD k = false := by
    rw [exec_next he]
    cases hi : isAccess i
    · rw [finish, State.respond_pair]; exact effect_keeps_clearBit hi hS hr hclear
    · exact (clearBit_writesLead S k).finish hi hclear
  rw [hkept] at hset
  cases hset

/-! ## A closed gate -/

theorem gateClosed_congr {s t : State} (hc : t.cfg = s.cfg) (hp : t.pmcEnable = s.pmcEnable) (u : Subsys) :
    gateClosed t u = gateClosed s u := by rw [gateClosed, gateClosed, hc, hp]

/-- The pair S still holds `p`, and the gate of its subsystem is closed. -/
def GatedPair (S : PairSource) (p : Pair) (s : State) : Prop := s.pair S = p ∧ gateClosed s (pairOwner S) = true

theorem GatedPair.congr {S : PairSource} {p : Pair} {s t : State} (h : GatedPair S p s) (hp : t.pair S = s.pair S)
    (hc : t.cfg = s.cfg) (he : t.pmcEnable = s.pmcEnable) : GatedPair S p t :=
  ⟨hp.trans h.1, (gateClosed_congr hc he _).trans h.2⟩

/-- An access can write neither word of a pair behind a closed gate; it may be the one that opens the gate. -/
theorem gatedPair_writesLead (S : PairSource) (p : Pair) : WritesLead (GatedPair S p) (fun s => s.pair S = p) where
  emit c h := h.congr (by simp) (by simp) (by simp)
  answer h := h.congr (by simp) (by simp) (by simp)
  refresh h := h.congr (by simp) (by simp) (by simp)
  respond x h := h.congr (by simp) (by simp) (by simp)
  weaken h := h.1
  write r v h hopen := by
    have hne : regOwner r ≠ pairOwner S := fun heq => by
      rw [heq, h.2] at hopen; cases hopen
    rw [writeReg_pair, if_neg (by rintro rfl; exact hne rfl), if_neg (by rintro rfl; exact hne rfl), h.1]
  shift _ _ _ _ _ h := h.congr (by cases S <;> rfl) rfl rfl
  advance _ h := by rw [← h]; cases S <;> rfl
  answered x h := by simpa using h

theorem effect_pair_of_not_access {i : Instr} {s : State} {S : PairSource} (hi : isAccess i = false)
    (hreset : i ≠ .reset) (hraise : ∀ mask, i ≠ .raiseIntr S mask) (htick : S = .ptimer → ∀ e, i ≠ .tickMclk e) :
    (effect i s).2.pair S = s.pair S := by
  cases i <;> cases hi
  case tickMclk e => exact tickMclk_pair (fun hS => htick hS e rfl) e s
  case raiseIntr P mask => rw [effect, raiseStatus_pair, if_neg]; rintro rfl; exact hraise mask rfl
  case grPending g0 g1 => rw [effect, recompute_pair]; cases S <;> rfl
  case reset => exact absurd rfl hreset
  case teardown => cases S <;> simp [effect, State.pair]
  case rmaModeWr b => cases S <;> rfl
  case tickVclk e => rfl

/-- Settles O55: an access meets the closed gate, and no other transaction but the excepted ones touches the pair. -/
theorem closedGateProtectsThePair : Obligations.ClosedGateProtectsThePair := by
  intro i s t S he hgate hreset hraise htick
  rw [exec_next he]
  cases hi : isAccess i
  · rw [finish, State.respond_pair, effect_pair_of_not_access hi hreset hraise htick]
  · exact (gatedPair_writesLead S (s.pair S)).finish hi ⟨rfl, hgate⟩

/-! ## Sound records -/

theorem crystal_pos_of_wellFormed {c : Config} (h : c.wellFormed = true) : 0 < c.crystalHz := by
  simp only [Config.wellFormed, Bool.and_eq_true, decide_eq_true_eq] at h
  obtain ⟨-, ⟨-, hcrystal⟩, -⟩ := h
  exact hcrystal

theorem denReset_ne_zero_of_wellFormed {c : Config} (h : c.wellFormed = true) : c.denReset ≠ 0 := by
  simp only [Config.wellFormed, Bool.and_eq_true, decide_eq_true_eq] at h
  obtain ⟨-, -, hden⟩ := h
  exact hden

theorem correctDen_ne_zero (v : Word) : correctDen v ≠ 0 := by
  unfold correctDen
  split
  · decide
  · assumption

/-- The records of 10_state.md are sound, under the well-formed configuration that step checks (R11). -/
def RecordsKept (s : State) : Prop := s.cfg.wellFormed = true ∧ RecordsSound s

namespace RecordsKept

variable {s t : State}

/-- A change that leaves the five records alone. -/
theorem congr (h : RecordsKept s)
    (heq : t.cfg = s.cfg ∧ t.den = s.den ∧ t.vclkTimer = s.vclkTimer ∧ t.mclkTimer = s.mclkTimer ∧
      t.rmaDcount = s.rmaDcount ∧ t.swStatus = s.swStatus) : RecordsKept t := by
  obtain ⟨hcfg, hden, hvclk, hmclk, hcount, hsw⟩ := heq
  rw [RecordsKept, RecordsSound, hcfg, hden, hvclk, hmclk, hcount, hsw]
  exact h

theorem timer (h : RecordsKept s) (g : Gen) : TimerSound (s.timer g) := by
  obtain ⟨-, -, hvclk, hmclk, -, -⟩ := h
  cases g
  · exact hvclk
  · exact hmclk

/-- A change that leaves the other records alone and the host timers sound. -/
theorem withTimers (h : RecordsKept s) (htimer : ∀ g, TimerSound (t.timer g))
    (heq : t.cfg = s.cfg ∧ t.den = s.den ∧ t.rmaDcount = s.rmaDcount ∧ t.swStatus = s.swStatus) : RecordsKept t := by
  obtain ⟨hw, hden, -, -, hcount, hsw⟩ := h
  obtain ⟨hcfg', hden', hcount', hsw'⟩ := heq
  exact ⟨hcfg' ▸ hw, hden' ▸ hden, htimer .vclk, htimer .mclk, hcount' ▸ hcount, hcfg' ▸ hsw' ▸ hsw⟩

/-- Program(g) starts the timer it creates, and its period is positive (R97, R98). -/
theorem programTimer (h : RecordsKept s) (g : Gen) : RecordsKept (programTimer g s) := by
  have hpos := timerPeriod_pos (crystal_pos_of_wellFormed h.1) (s.divider g)
  refine h.withTimers (fun k => ?_) (by simp)
  rw [programTimer_timer]
  split_ifs with hk hcreated
  · exact ⟨(h.timer g).1, fun _ => hpos⟩
  · exact ⟨rfl, fun _ => hpos⟩
  · exact h.timer k

theorem destroyTimer (h : RecordsKept s) (g : Gen) : RecordsKept (destroyTimer g s) := by
  refine h.withTimers (fun k => ?_) (by simp)
  unfold Machine.destroyTimer
  split
  · rw [State.setTimer_timer]
    split_ifs
    · exact ⟨rfl, nofun⟩
    · rw [State.emit_timer]; exact h.timer k
  · exact h.timer k

/-- SW_STATUS is written under BIT31_SETS alone, and DEN is corrected at write (R77, R104). -/
theorem writeReg (h : RecordsKept s) (r : Reg) (v : Word) : RecordsKept (writeReg r v s) := by
  cases r
  case pmcIntr0 =>
    simp only [Machine.writeReg, writePmcIntr]
    split
    case h_1 hset =>
      obtain ⟨hw, hden, hvclk, hmclk, hcount, -⟩ := h
      have hwritten : RecordsKept { s with swStatus := v.getLsbD 31 } :=
        ⟨hw, hden, hvclk, hmclk, hcount, fun hnone => by rw [hset] at hnone; cases hnone⟩
      exact hwritten.congr (by simp)
    case h_2 => exact h
  case ptimerDenominator =>
    obtain ⟨hw, -, hrest⟩ := h
    exact ⟨hw, correctDen_ne_zero v, hrest⟩
  case coeff g => exact RecordsKept.programTimer (h.congr (by simp)) g
  case pmcIntrEn0 => exact h.congr (by simp [Machine.writeReg, writePmcIntrEn])
  all_goals exact h.congr (by simp [Machine.writeReg])

theorem writesLead : WritesLead RecordsKept RecordsKept where
  emit c h := h.congr (by simp)
  answer h := h.congr (by simp)
  refresh h := h.congr (by simp)
  respond x h := h.congr (by simp)
  weaken h := h
  write r v h _ := h.writeReg r v
  shift _ _ _ n hn h := by
    obtain ⟨hw, hden, hvclk, hmclk, hcount, hsw⟩ := h
    exact ⟨hw, hden, hvclk, hmclk, hn.elim (fun hn => hn ▸ hcount) id, hsw⟩
  advance _ h := h.congr (by simp)
  answered x h := h.congr (by simp)

theorem resetBlock (h : RecordsKept s) : RecordsKept (resetBlock s) := by
  have hcleared : RecordsKept (clearedByReset s) := by
    rw [clearedByReset_eq]
    exact ⟨h.1, denReset_ne_zero_of_wellFormed h.1, ⟨rfl, nofun⟩, ⟨rfl, nofun⟩, Nat.zero_lt_succ 3, fun _ => rfl⟩
  rw [resetBlock_eq]
  split
  · exact (hcleared.programTimer .vclk).programTimer .mclk
  · exact hcleared

theorem effect_of_not_access (h : RecordsKept s) {i : Instr} (hi : isAccess i = false) :
    RecordsKept (effect i s).2 := by
  cases i <;> cases hi
  case reset => exact h.resetBlock
  case teardown => exact ((h.destroyTimer .vclk).destroyTimer .mclk).congr (by simp [effect])
  all_goals exact h.congr (by simp [effect])

theorem finish (h : RecordsKept s) (i : Instr) : RecordsKept (finish i s) := by
  cases hi : isAccess i
  · exact writesLead.answered _ (h.effect_of_not_access hi)
  · exact writesLead.finish hi h

end RecordsKept

/-- Settles O59: the records are sound under the well-formed configuration that step checks, at each of its parts. -/
theorem stepKeepsTheRecordsSound : Obligations.StepKeepsTheRecordsSound := by
  intro s t h hs
  obtain ⟨hw, i, rest, rfl⟩ := step_next hs
  have hkept : RecordsKept { s with inbox := rest } := ⟨hw, h⟩
  exact (hkept.finish i).2

/-! ## The state after reset -/

/-- Settles O60: nothing is pending at reset and the line is low, and R11 is evaluated on the default parameters. -/
theorem resetStateMeetsTheInvariants : Obligations.ResetStateMeetsTheInvariants := by
  have hfresh : AggFresh State.reset := (aggregate_of_nothing_pending fun x => by cases x <;> decide).symm
  have hexact : LineExact State.reset := lineExact_of_low rfl (.inl rfl)
  exact ⟨by decide, hfresh, lineLaw_of_lineExact hexact, hexact, by decide, rfl, rfl⟩

end Sys2Proof.Machine
end

section
/-! RMA_SAVE is read by nothing (43_rma.md R116): replacing it commutes with every operation, and so with every transaction. -/

namespace Sys2Proof.Machine

/-- RMA_SAVE replaced. -/
def State.withSave (s : State) (saved : Vector Byte 4) : State := { s with rmaSave := saved }

section
variable (s : State) (x : Vector Byte 4)

/-! ## The shared operations and the registers -/

theorem recompute_withSave (b : Bool) : recompute b (s.withSave x) = (recompute b s).withSave x := by
  rw [recompute_eq, recompute_eq]; rfl

theorem raiseStatus_withSave (S : PairSource) (mask : Word) :
    raiseStatus S mask (s.withSave x) = (raiseStatus S mask s).withSave x := by
  have h : (s.withSave x).setStatus S (((s.withSave x).pair S).status ||| mask) =
      (s.setStatus S ((s.pair S).status ||| mask)).withSave x := by cases S <;> rfl
  rw [raiseStatus, h, recompute_withSave, raiseStatus]

theorem programTimer_withSave (g : Gen) : programTimer g (s.withSave x) = (programTimer g s).withSave x := by
  cases g <;> (unfold programTimer; dsimp only; split <;> (split <;> first | rfl | contradiction))

theorem destroyTimer_withSave (g : Gen) : destroyTimer g (s.withSave x) = (destroyTimer g s).withSave x := by
  cases g <;> (unfold destroyTimer; split <;> (split <;> first | rfl | contradiction))

theorem ask_withSave (c : Call) : (s.withSave x).ask c = ((s.ask c).1, (s.ask c).2.withSave x) := by
  unfold State.ask State.answer State.afterAnswer
  cases h : s.answers <;> simp [State.withSave, State.emit, h]

theorem readReg_withSave (r : Reg) : readReg r (s.withSave x) = ((readReg r s).1, (readReg r s).2.withSave x) := by
  cases r
  case pmcIntr0 => simp only [readReg, recompute_withSave]; rfl
  case intr S | intrEn S => cases S <;> rfl
  case coeff g => cases g <;> rfl
  all_goals rfl

theorem writeReg_withSave (r : Reg) (v : Word) : writeReg r v (s.withSave x) = (writeReg r v s).withSave x := by
  cases r
  case pmcIntr0 =>
    simp only [writeReg, writePmcIntr, show (s.withSave x).cfg = s.cfg from rfl]
    split
    · exact recompute_withSave { s with swStatus := v.getLsbD 31 } x true
    · rfl
  case pmcIntrEn0 =>
    exact recompute_withSave
      { s with
        globalEnHw := v.getLsbD s.cfg.globalEnHwBit.val
        globalEnSw := v.getLsbD s.cfg.globalEnSwBit.val } x true
  case intr S =>
    have h : ((s.withSave x).setStatus S (((s.withSave x).pair S).status &&& ~~~v)).drive .deassert =
        ((s.setStatus S ((s.pair S).status &&& ~~~v)).drive .deassert).withSave x := by cases S <;> rfl
    simp only [writeReg, w1c, h, recompute_withSave]
  case intrEn S =>
    have h : (s.withSave x).setEnable S v = (s.setEnable S v).withSave x := by cases S <;> rfl
    simp only [writeReg, h, recompute_withSave]
  case coeff g =>
    have h : (s.withSave x).setDivider g (unpackDivider v) = (s.setDivider g (unpackDivider v)).withSave x := by
      cases g <;> rfl
    simp only [writeReg, writeCoeff, h, programTimer_withSave]
  all_goals rfl

/-! ## The arbiter and the composer -/

theorem read32_withSave (a : Addr) : read32 a (s.withSave x) = ((read32 a s).1, (read32 a s).2.withSave x) := by
  unfold read32
  rw [show route (s.withSave x) (alignAddr a) = route s (alignAddr a) from rfl]
  cases route s (alignAddr a)
  case external y => exact ask_withSave s x _
  case register r => exact readReg_withSave s x r
  all_goals rfl

theorem write32_withSave (a : Addr) (v : Word) : write32 a v (s.withSave x) = (write32 a v s).withSave x := by
  unfold write32
  rw [show route (s.withSave x) (alignAddr a) = route s (alignAddr a) from rfl]
  cases route s (alignAddr a)
  case register r => exact writeReg_withSave s x r v
  all_goals rfl

theorem vgaRead_withSave (a : Addr) (n : Nat) :
    vgaRead a n (s.withSave x) = ((vgaRead a n s).1, (vgaRead a n s).2.withSave x) := by
  induction n with
  | zero => rfl
  | succ n ih => simp only [vgaRead, vgaIn, ih, ask_withSave]

theorem vgaWrite_withSave (a : Addr) (v : Word) (n : Nat) :
    vgaWrite a v n (s.withSave x) = (vgaWrite a v n s).withSave x := by
  induction n with
  | zero => rfl
  | succ n ih => simp only [vgaWrite, ih]; rfl

theorem memRead8_withSave (a : Addr) : memRead8 a (s.withSave x) = ((memRead8 a s).1, (memRead8 a s).2.withSave x) := by
  unfold memRead8
  rw [vgaRead_withSave, read32_withSave, show (s.withSave x).cfg = s.cfg from rfl]
  split <;> rfl

theorem memRead16_withSave (a : Addr) :
    memRead16 a (s.withSave x) = ((memRead16 a s).1, (memRead16 a s).2.withSave x) := by
  unfold memRead16
  rw [vgaRead_withSave, read32_withSave, show (s.withSave x).cfg = s.cfg from rfl]
  split <;> rfl

theorem memRead32_withSave (a : Addr) :
    memRead32 a (s.withSave x) = ((memRead32 a s).1, (memRead32 a s).2.withSave x) := by
  unfold memRead32
  rw [vgaRead_withSave, read32_withSave, show (s.withSave x).cfg = s.cfg from rfl]
  split <;> rfl

theorem memWrite8_withSave (a : Addr) (b : Byte) : memWrite8 a b (s.withSave x) = (memWrite8 a b s).withSave x := by
  unfold memWrite8
  rw [vgaWrite_withSave, read32_withSave, show (s.withSave x).cfg = s.cfg from rfl]
  dsimp only
  rw [write32_withSave]
  split <;> rfl

theorem memWrite16_withSave (a : Addr) (h : Half) :
    memWrite16 a h (s.withSave x) = (memWrite16 a h s).withSave x := by
  unfold memWrite16
  rw [vgaWrite_withSave, read32_withSave, show (s.withSave x).cfg = s.cfg from rfl]
  dsimp only
  rw [write32_withSave]
  split <;> rfl

theorem memWrite32_withSave (a : Addr) (v : Word) :
    memWrite32 a v (s.withSave x) = (memWrite32 a v s).withSave x := by
  unfold memWrite32
  rw [vgaWrite_withSave, write32_withSave, show (s.withSave x).cfg = s.cfg from rfl]
  split <;> rfl

/-! ## The shifter -/

theorem rmaRead_withSave (p : Byte) : rmaRead p (s.withSave x) = ((rmaRead p s).1, (rmaRead p s).2.withSave x) := by
  have hbyte : ∀ t, rmaReadByte t (s.withSave x) = ((rmaReadByte t s).1, (rmaReadByte t s).2.withSave x) := by
    intro t
    unfold rmaReadByte
    cases rmaTarget t
    · simp only [memRead8_withSave]
    · simp only [ask_withSave]
  unfold rmaRead
  cases rmaPort p
  case data k =>
    dsimp only
    rw [show txnMode (s.withSave x) = txnMode s from rfl]
    split
    · exact hbyte _
    · rfl
  all_goals rfl

theorem rmaTxn_withSave : rmaTxn (s.withSave x) = (rmaTxn s).withSave x := by
  have hword : rmaWriteWord s.rmaAddr s.rmaData (s.withSave x) = (rmaWriteWord s.rmaAddr s.rmaData s).withSave x := by
    unfold rmaWriteWord
    cases rmaTarget s.rmaAddr
    · exact memWrite32_withSave s x _ _
    · rfl
  have hinc : ∀ t : State, autoIncrement (t.withSave x) = (autoIncrement t).withSave x := by
    intro t
    unfold autoIncrement
    rw [show autoIncMode (t.withSave x) = autoIncMode t from rfl]
    split <;> rfl
  exact (congrArg autoIncrement hword).trans (hinc _)

theorem trigger_withSave (k : Fin 4) : trigger k (s.withSave x) = ((trigger k s).1, (trigger k s).2.withSave x) := by
  unfold trigger
  rw [show (s.withSave x).cfg = s.cfg from rfl]
  cases s.cfg.rmaTrigger <;> rfl

theorem completeIf_withSave (done : Bool) : completeIf done (s.withSave x) = (completeIf done s).withSave x := by
  cases done
  · rfl
  · exact rmaTxn_withSave s x

/-- RMA_OUT writes RMA_SAVE and reads nothing of it (R112, R116). -/
theorem rmaWrite_withSave (p b : Byte) : ∃ y, rmaWrite p b (s.withSave x) = (rmaWrite p b s).withSave y := by
  unfold rmaWrite
  rw [show txnMode (s.withSave x) = txnMode s from rfl]
  split
  case isFalse => exact ⟨x, rfl⟩
  case isTrue =>
    cases rmaPort p
    case low k => exact ⟨x.set k.val b, rfl⟩
    case undefined => exact ⟨x, rfl⟩
    case data k =>
      have hbyte : rmaDataByte k b (s.withSave x) = (rmaDataByte k b s).withSave (x.set k.val b) := rfl
      simp only [hbyte, trigger_withSave, completeIf_withSave]
      exact ⟨_, rfl⟩

end

/-! ## The transactions -/

theorem tickMclk_withSave (e : Q) (s : State) (x : Vector Byte 4) :
    tickMclk e (s.withSave x) = (tickMclk e s).withSave x := by
  have halarm : ∀ t : State, evaluateAlarm (t.withSave x) = (evaluateAlarm t).withSave x := by
    intro t
    unfold evaluateAlarm
    rw [show alarmDue (t.withSave x) = alarmDue t from rfl]
    split
    · exact raiseStatus_withSave t x _ _
    · rfl
  unfold tickMclk
  rw [show (s.withSave x).mclkTimer = s.mclkTimer from rfl]
  split
  · exact halarm (advanceTime e s)
  · rfl

/-- RESET gives RMA_SAVE its reset value, whatever it was (R142). -/
theorem resetBlock_withSave (s : State) (x : Vector Byte 4) : resetBlock (s.withSave x) = resetBlock s := by
  have h : clearedByReset (s.withSave x) = clearedByReset s := by rw [clearedByReset_eq, clearedByReset_eq]; rfl
  rw [resetBlock_eq, resetBlock_eq, h]; rfl

/-- What a transaction returns does not depend on RMA_SAVE, and what it leaves does so in RMA_SAVE alone (R116). -/
theorem effect_withSave (i : Instr) (s : State) (x : Vector Byte 4) :
    ∃ y, effect i (s.withSave x) = ((effect i s).1, (effect i s).2.withSave y) := by
  cases i
  case mmioRd8 a => exact ⟨x, by simp only [effect, dataResponse, memRead8_withSave]⟩
  case mmioRd16 a => exact ⟨x, by simp only [effect, dataResponse, memRead16_withSave]⟩
  case mmioRd32 a => exact ⟨x, by simp only [effect, dataResponse, memRead32_withSave]⟩
  case mmioWr8 a b => exact ⟨x, by simp only [effect, memWrite8_withSave]⟩
  case mmioWr16 a h => exact ⟨x, by simp only [effect, memWrite16_withSave]⟩
  case mmioWr32 a v => exact ⟨x, by simp only [effect, memWrite32_withSave]⟩
  case rmaIn p => exact ⟨x, by simp only [effect, rmaRead_withSave]⟩
  case rmaOut p b => exact (rmaWrite_withSave s x p b).imp fun y hy => by simp only [effect, hy]
  case rmaModeWr b => exact ⟨x, rfl⟩
  case tickVclk e => exact ⟨x, rfl⟩
  case tickMclk e => exact ⟨x, by simp only [effect, tickMclk_withSave]⟩
  case raiseIntr S mask => exact ⟨x, by simp only [effect, raiseStatus_withSave]⟩
  case grPending g0 g1 =>
    exact ⟨x, by simp only [effect]; exact congrArg _ (recompute_withSave { s with gr0Pend := g0, gr1Pend := g1 } x true)⟩
  case reset => exact ⟨(resetBlock s).rmaSave, by simp only [effect, resetBlock_withSave]; rfl⟩
  case teardown => exact ⟨x, by simp only [effect, destroyTimer_withSave]; rfl⟩

/-- Settles O49: what a transaction answers is decided by DEAD and the operands, and its effect carries RMA_SAVE along. -/
theorem savedBytesAreUnobservable : Obligations.SavedBytesAreUnobservable := by
  intro i s x
  change (∀ t : State, _ → ∃ y, exec i (s.withSave x) = .next (t.withSave y)) ∧
    (∀ f, _ → exec i (s.withSave x) = .fault f) ∧
    (∀ r, _ → ∃ (why : Illegal) (marked : State) (y : Vector Byte 4), _ ∧ exec i (s.withSave x) = .refused (.illegalTransaction why (marked.withSave y)))
  obtain ⟨y, hy⟩ := effect_withSave i s x
  have hfinish : finish i (s.withSave x) = (finish i s).withSave y := by rw [finish, hy]; rfl
  rw [exec_eq, exec_eq, show (s.withSave x).dead = s.dead from rfl, hfinish]
  split_ifs
  · refine ⟨fun t h => ?_, fun f h => h, fun r h => ?_⟩ <;> cases h
  · refine ⟨fun t h => ?_, fun f h => ?_, fun r h => ?_⟩ <;> cases h
    exact ⟨y, rfl⟩
  · refine ⟨fun t h => ?_, fun f h => ?_, fun r h => ?_⟩ <;> cases h
    exact ⟨_, _, x, rfl, rfl⟩

end Sys2Proof.Machine
end

section
/-! Proofs about single steps (10_state.md R18, 30_encoding.md R64, 44_host_inputs.md R120): when step runs a transaction,
how it stops, and what every transaction that completes leaves alone. -/

namespace Sys2Proof.Machine

/-! ## How a step stops -/

/-- Settles O7: the record passes both of step's checks and decodes. -/
theorem stepRunsTheDecodedTransaction : Obligations.StepRunsTheDecodedTransaction :=
  fun _ _ _ _ hr hw hi hdecode => step_of_decode_ok hr hw hi hdecode

/-- A step that refuses an illegal transaction took the record off, and marked the state (R64). -/
theorem step_refused_illegal {s marked : State} {why : Illegal} (h : step s = .refused (.illegalTransaction why marked)) :
    marked = { s with inbox := s.inbox.tail, refused := true } := by
  by_cases hr : s.refused = true
  · rw [step_of_refused hr] at h; cases h
  rw [Bool.not_eq_true] at hr
  by_cases hw : s.cfg.wellFormed = true
  case neg => rw [step_of_illFormed hr (Bool.eq_false_of_not_eq_true hw)] at h; cases h
  cases hi : s.inbox with
  | nil => rw [step_of_empty hr hw hi] at h; cases h
  | cons t rest =>
    cases hdecode : decode t with
    | ok i =>
      rw [step_of_decode_ok hr hw hi hdecode] at h
      cases exec_refused h
      rfl
    | error e =>
      rw [step_of_decode_error hr hw hi hdecode] at h
      split at h <;> cases h
      rfl

/-- Settles O8: each test that step makes, in its order, and the mark that it finds first the next time. -/
theorem stepStopsByName : Obligations.StepStopsByName := by
  refine ⟨fun s => step_of_refused, fun s => step_of_illFormed, fun s => step_of_empty,
    fun s t rest e hr hw hi hd => step_of_decode_error hr hw hi hd, fun s marked why h => ?_⟩
  obtain rfl := step_refused_illegal h
  exact ⟨rfl, step_of_refused rfl⟩

/-- Settles O9: DEAD is tested before anything else, and by every transaction but RESET. -/
theorem deadBlockTakesOnlyReset : Obligations.DeadBlockTakesOnlyReset :=
  fun i s hd hi => by rw [exec_eq, if_pos ⟨hd, hi⟩]

/-! ## Calls are only added -/

/-- The calls made so far still begin the record of calls (R15). -/
def CallsExtend (l : List Call) (s : State) : Prop := l <+: s.calls

theorem CallsExtend.append {l new : List Call} {s t : State} (h : CallsExtend l s) (ht : t.calls = s.calls ++ new) :
    CallsExtend l t := by
  rw [CallsExtend, ht]
  exact h.trans (List.prefix_append _ _)

theorem CallsExtend.congr {l : List Call} {s t : State} (h : CallsExtend l s) (ht : t.calls = s.calls) :
    CallsExtend l t := h.append (new := []) (by simpa using ht)

theorem CallsExtend.writeReg {l : List Call} {s : State} (h : CallsExtend l s) (r : Reg) (v : Word) :
    CallsExtend l (writeReg r v s) := by
  cases r
  case pmcIntr0 =>
    simp only [Machine.writeReg, writePmcIntr]
    split
    · exact h.append (recompute_calls _ _)
    · exact h
  case pmcIntrEn0 => exact h.append (recompute_calls _ _)
  case intr S =>
    have hlow : CallsExtend l ((s.setStatus S ((s.pair S).status &&& ~~~v)).drive .deassert) :=
      h.append (by rw [State.drive_calls, State.setStatus_calls])
    exact hlow.append (recompute_calls _ _)
  case intrEn S => exact h.append (by rw [Machine.writeReg, recompute_calls, State.setEnable_calls])
  case coeff g => exact h.append (by rw [Machine.writeReg, writeCoeff, programTimer_calls, State.setDivider_calls])
  all_goals exact h

theorem callsExtend_writesLead (l : List Call) : WritesLead (CallsExtend l) (CallsExtend l) where
  emit c h := h.append (State.emit_calls _ c)
  answer h := h.congr (State.afterAnswer_calls _)
  refresh h := h.append (recompute_calls _ _)
  respond x h := h.congr (State.respond_calls _ x)
  weaken h := h
  write r v h _ := h.writeReg r v
  shift _ _ _ _ _ h := h.congr rfl
  advance _ h := h.congr rfl
  answered x h := h.congr (State.respond_calls _ x)

theorem destroyTimer_calls (g : Gen) (s : State) :
    (destroyTimer g s).calls = s.calls ++ (if (s.timer g).created then [.timerDestroy g] else []) := by
  unfold destroyTimer
  split <;> simp

theorem CallsExtend.programTimer {l : List Call} {s : State} (h : CallsExtend l s) (g : Gen) :
    CallsExtend l (programTimer g s) := h.append (programTimer_calls g s)

theorem CallsExtend.destroyTimer {l : List Call} {s : State} (h : CallsExtend l s) (g : Gen) :
    CallsExtend l (destroyTimer g s) := h.append (destroyTimer_calls g s)

theorem CallsExtend.effect_of_not_access {l : List Call} {s : State} (h : CallsExtend l s) {i : Instr}
    (hi : isAccess i = false) : CallsExtend l (effect i s).2 := by
  cases i <;> cases hi
  case rmaModeWr b | tickVclk e => exact h
  case tickMclk e =>
    obtain ⟨-, new, hnew, -⟩ := tickFrame_tickMclk e s
    exact h.append hnew
  case raiseIntr S mask => exact h.append (by rw [effect, raiseStatus, recompute_calls, State.setStatus_calls])
  case grPending g0 g1 => exact h.append (recompute_calls _ _)
  case reset =>
    have hcleared : CallsExtend l (clearedByReset s) :=
      h.append (by rw [clearedByReset_calls, List.append_assoc, List.append_assoc])
    rw [effect, resetBlock_eq]
    split
    · exact (hcleared.programTimer .vclk).programTimer .mclk
    · exact hcleared
  case teardown => exact ((h.destroyTimer .vclk).destroyTimer .mclk).congr rfl

theorem finish_calls (i : Instr) (s : State) : s.calls <+: (finish i s).calls := by
  have h : CallsExtend s.calls s := List.prefix_refl _
  cases hi : isAccess i
  · exact (h.effect_of_not_access hi).congr (State.respond_calls _ _)
  · exact (callsExtend_writesLead s.calls).finish hi h

/-! ## What every transaction leaves alone -/

@[simp] theorem resetBlock_inbox (s : State) : (resetBlock s).inbox = s.inbox := by
  rw [resetBlock_frame, clearedByReset_eq]

@[simp] theorem resetBlock_refused (s : State) : (resetBlock s).refused = s.refused := by
  rw [resetBlock_frame, clearedByReset_eq]

@[simp] theorem resetBlock_dead (s : State) : (resetBlock s).dead = false := by
  rw [resetBlock_frame, clearedByReset_eq]; rfl

/-- The parameters, the offers and the REFUSED mark are no transaction's to change. -/
theorem finish_frame (i : Instr) (s : State) :
    (finish i s).cfg = s.cfg ∧ (finish i s).inbox = s.inbox ∧ (finish i s).refused = s.refused := by
  cases i <;> simp [finish, effect, dataResponse]

/-- DEAD is set by TEARDOWN, cleared by RESET, and kept by every other transaction (R119, R120). -/
theorem finish_dead (i : Instr) (s : State) :
    (finish i s).dead = if i = .teardown then true else if i = .reset then false else s.dead := by
  cases i <;> simp [finish, effect, dataResponse]

/-- Settles O10: a well-formed transaction passes both tests of `exec`. -/
theorem legalTransactionsComplete : Obligations.LegalTransactionsComplete := by
  intro i s hw hlive
  obtain ⟨hcfg, hinbox, hrefused⟩ := finish_frame i s
  refine ⟨finish i s, ?_, hcfg, hinbox, hrefused, finish_calls i s, ?_⟩
  · rw [exec_eq, if_neg, if_pos hw]
    rintro ⟨hd, hi⟩
    rcases hlive with hlive | hlive
    · rw [hlive] at hd; cases hd
    · exact hi hlive
  · rw [finish_dead]
    rcases hlive with hlive | rfl
    · simp [hlive]
    · simp

end Sys2Proof.Machine
end

section
/-! Proofs about the arbiter's default map (20_memory.md, 40_dispatch.md) and the composer (41_composer.md): what an MMIO
access reads and writes, off the VGA window and in it. -/

namespace Sys2Proof.Machine

/-! ## The default map -/

/-- A subsystem's register at the address, behind an open gate (R68 to R72). -/
theorem route_of_findReg {s : State} {a : Addr} {t : Subsys} {r : Reg} (hrange : findRange s.cfg a = some (.sub t))
    (hgate : gateClosed s t = false) (hreg : findReg s.cfg t a = some r) : route s a = .register r := by
  simp only [route, hrange, hgate, hreg]
  rfl

theorem route_of_gateClosed {s : State} {a : Addr} {t : Subsys} (hrange : findRange s.cfg a = some (.sub t))
    (hgate : gateClosed s t = true) : route s a = .gated t := by
  simp only [route, hrange, hgate]
  rfl

/-- Under the default parameters the byte address `a` lies off the VGA window, in the word of the register `r`. -/
abbrev AtDefault (a : Addr) (r : Reg) : Prop :=
  inVgaWindow defaultConfig a = false ∧ findRange defaultConfig (alignAddr a) = some (.sub (regOwner r)) ∧
    findReg defaultConfig (regOwner r) (alignAddr a) = some r

section
variable {s : State} (hr : s.cfg.ranges = defaultRanges) (hm : s.cfg.regmap = defaultRegmap)
  (hv : s.cfg.vgaWindows = defaultVgaWindows)
include hr hm hv

theorem reaches_of_atDefault {a : Addr} {r : Reg} (h : AtDefault a r) (hgate : gateClosed s (regOwner r) = false) :
    Reaches s a r := by
  obtain ⟨hwindow, hrange, hreg⟩ := h
  refine ⟨?_, route_of_findReg ?_ hgate ?_⟩
  · rw [← hwindow, inVgaWindow, inVgaWindow, hv]; rfl
  · rw [← hrange, findRange, findRange, hr]; rfl
  · rw [← hreg, findReg, findReg, hm]; rfl

end

/-- The default offsets of the 21 registers outside the gated subsystem (R75). -/
def ungatedOffsets : List (Nat × Reg) :=
  [(0x000000, .pmcBoot0), (0x000100, .pmcIntr0), (0x000140, .pmcIntrEn0), (0x000200, .pmcEnable),
    (0x001100, .intr .pbus), (0x001140, .intrEn .pbus), (0x009100, .intr .ptimer), (0x009140, .intrEn .ptimer),
    (0x009200, .ptimerNumerator), (0x009210, .ptimerDenominator), (0x009400, .ptimerTime0),
    (0x009410, .ptimerTime1), (0x009420, .ptimerAlarm0), (0x100200, .pfbConfig0), (0x101000, .pextdevBoot0),
    (0x200100, .intr .pme), (0x200140, .intrEn .pme), (0x680100, .intr .pvideo), (0x680140, .intrEn .pvideo),
    (0x680504, .coeff .mclk), (0x680508, .coeff .vclk)]

theorem atDefault_of_mem_ungatedOffsets (k : Fin 4) :
    ∀ p ∈ ungatedOffsets, AtDefault (BitVec.ofNat 24 (p.1 + k.val)) p.2 ∧ regOwner p.2 ≠ .pfifo := by
  revert k
  decide

theorem atDefault_pfifo (k : Fin 4) :
    ∀ p ∈ ([(0x002100, .intr .pfifo), (0x002140, .intrEn .pfifo)] : List (Nat × Reg)),
      AtDefault (BitVec.ofNat 24 (p.1 + k.val)) p.2 ∧ regOwner p.2 = .pfifo := by
  revert k
  decide

/-- Only PFIFO is gated by default, by PMC_ENABLE bit 8 (R71). -/
theorem gateClosed_default {s : State} (hg : s.cfg.gated = [⟨.pfifo, 8⟩]) (t : Subsys) :
    gateClosed s t = (decide (t = .pfifo) && !s.pmcEnable.getLsbD 8) := by
  cases t <;> simp [gateClosed, hg]

/-- Settles O13: the default tables are searched at each byte address, and the gate is PMC_ENABLE's bit. -/
theorem defaultMapReachesEveryRegister : Obligations.DefaultMapReachesEveryRegister := by
  intro s k hr hm hv hg
  refine ⟨fun p hp => ?_, fun p hp => ?_⟩
  · obtain ⟨hat, hne⟩ := atDefault_of_mem_ungatedOffsets k p hp
    exact reaches_of_atDefault hr hm hv hat (by simp [gateClosed_default hg, hne])
  · obtain ⟨hat, howner⟩ := atDefault_pfifo k p hp
    split
    case isTrue hopen =>
      exact reaches_of_atDefault hr hm hv hat (by rw [gateClosed_default hg, hopen, Bool.not_true, Bool.and_false])
    case isFalse hclosed =>
      obtain ⟨-, hrange, -⟩ := hat
      refine route_of_gateClosed ?_ (by simpa [gateClosed_default hg] using hclosed)
      rw [← howner, ← hrange, findRange, findRange, hr]; rfl

/-! ## Lanes of a word -/

theorem and_mask_eq_ofNat {n : Nat} (w : Word) (k : Nat) :
    (w >>> k) &&& BitVec.ofNat 32 (2 ^ n - 1) = BitVec.ofNat 32 (w.toNat / 2 ^ k % 2 ^ n) := by
  rw [← setWidth_setWidth_eq_and]
  apply BitVec.eq_of_toNat_eq
  simp [Nat.shiftRight_eq_div_pow]

theorem extract8_eq (w : Word) (a : Addr) :
    extract8 w a = BitVec.ofNat 32 (w.toNat / 2 ^ (8 * (a.toNat % 4)) % 2 ^ 8) := by
  rw [extract8, laneShift_eq]
  exact and_mask_eq_ofNat (n := 8) w _

theorem extract16_eq (w : Word) (a : Addr) :
    extract16 w a = BitVec.ofNat 32 (w.toNat / 2 ^ (8 * (a.toNat % 4)) % 2 ^ 16) := by
  rw [extract16, laneShift_eq]
  exact and_mask_eq_ofNat (n := 16) w _

theorem alignAddr_eq_shift (a : Addr) : alignAddr a = (a >>> 2) <<< 2 := by
  have mask : ∀ i < 24, (0xFFFFFC : Addr).getLsbD i = decide (2 ≤ i) := by decide
  apply BitVec.eq_of_getLsbD_eq
  intro i hi
  rw [alignAddr, BitVec.getLsbD_and, mask i hi]
  by_cases h : 2 ≤ i
  · simp [h, hi, show ¬ i < 2 by omega, show 2 + (i - 2) = i by omega]
  · simp [h, show i < 2 by omega]

/-- Aligning clears the offset in the word (R50). -/
theorem alignAddr_toNat (a : Addr) : (alignAddr a).toNat = a.toNat - a.toNat % 4 := by
  have := a.isLt
  rw [alignAddr_eq_shift, BitVec.toNat_shiftLeft, BitVec.toNat_ushiftRight, Nat.shiftLeft_eq, Nat.shiftRight_eq_div_pow]
  omega

/-! ## Registers off the window -/

/-- What a read of a register returns is what the spec's table gives (R76 to R83, R95, R103 to R106). -/
theorem readReg_value (r : Reg) (s : State) : (readReg r s).1 = registerWord s r := by
  cases r
  case pmcIntr0 => exact recompute_agg false s
  case pmcIntrEn0 =>
    have flag : ∀ (b : Bool) (i : Nat), flagWord b <<< i = if b then BitVec.twoPow 32 i else 0 := by
      intro b i; cases b <;> simp [flagWord, BitVec.twoPow]
    exact congrArg₂ (· ||| ·) (flag _ _) (flag _ _)
  case ptimerTime0 => apply BitVec.eq_of_toNat_eq; simp [readReg, registerWord]
  case ptimerTime1 => apply BitVec.eq_of_toNat_eq; simp [readReg, registerWord, Nat.shiftRight_eq_div_pow]
  case coeff g =>
    have hword : packDivider (s.divider g) = BitVec.ofNat 32 (packDivider (s.divider g)).toNat := by simp
    exact hword.trans (congrArg (BitVec.ofNat 32) (toNat_packDivider _))
  all_goals rfl

/-- Only PMC_INTR_0 has a read with an effect (R68, R77). -/
theorem readReg_eq {r : Reg} (h : r ≠ .pmcIntr0) (s : State) : readReg r s = (registerWord s r, s) := by
  refine Prod.ext (readReg_value r s) ?_
  cases r
  case pmcIntr0 => exact absurd rfl h
  all_goals rfl

section
variable {s : State} {a : Addr} {r : Reg} (h : Reaches s a r)
include h

theorem memRead8_of_reaches : memRead8 a s = (extract8 (readReg r s).1 a, (readReg r s).2) := by
  simp [memRead8, h.1, read32_of_reaches h]

theorem memRead16_of_reaches : memRead16 a s = (extract16 (readReg r s).1 a, (readReg r s).2) := by
  simp [memRead16, h.1, read32_of_reaches h]

end

/-- Settles O15: the register's word, cut to its lanes, with no effect of the read. -/
theorem readsReturnTheRegistersLanes : Obligations.ReadsReturnTheRegistersLanes := by
  intro s a r hd h hr
  refine ⟨?_, ?_, ?_⟩
  · rw [exec_mmioRd8 _ hd, memRead8_of_reaches h, readReg_eq hr, extract8_eq]; rfl
  · rw [exec_mmioRd16 _ hd, memRead16_of_reaches h, readReg_eq hr, extract16_eq]; rfl
  · rw [exec_mmioRd32 _ hd, memRead32_of_reaches h, readReg_eq hr]; rfl

/-- The read of PMC_INTR_0 is Recompute(false), written out (R77, R124). -/
theorem readReg_pmcIntr0 (s : State) :
    readReg .pmcIntr0 s =
      (aggregate s,
        { s with
          agg := aggregate s
          line := if !s.globalEnHw && !s.globalEnSw then false else s.line
          calls := if !s.globalEnHw && !s.globalEnSw then s.calls ++ [.irqDeassert] else s.calls }) := by
  refine Prod.ext (recompute_agg false s) ?_
  change recompute false s = _
  rw [recompute_false, bothGatesClosed]
  split <;> rfl

/-- Settles O16: each width returns the lanes of the aggregate just stored. -/
theorem pmcIntrReadRefreshesTheAggregate : Obligations.PmcIntrReadRefreshesTheAggregate := by
  intro s a hd h
  refine ⟨?_, ?_, ?_⟩
  · rw [exec_mmioRd32 _ hd, memRead32_of_reaches h, readReg_pmcIntr0]; rfl
  · rw [exec_mmioRd16 _ hd, memRead16_of_reaches h, readReg_pmcIntr0, extract16_eq]; rfl
  · rw [exec_mmioRd8 _ hd, memRead8_of_reaches h, readReg_pmcIntr0, extract8_eq]; rfl

/-! ## Narrow and misaligned accesses off the window -/

theorem read32_alignAddr (a : Addr) : read32 (alignAddr a) = read32 a := by
  funext s; simp only [read32, alignAddr_alignAddr]

theorem write32_alignAddr (a : Addr) : write32 (alignAddr a) = write32 a := by
  funext v s; simp only [write32, alignAddr_alignAddr]

section
variable {s : State} {a : Addr}

theorem memRead32_of_off (h : inVgaWindow s.cfg a = false) : memRead32 a s = read32 a s := by
  simp [memRead32, h, read32_alignAddr]

theorem memWrite32_of_off (h : inVgaWindow s.cfg a = false) (v : Word) : memWrite32 a v s = write32 a v s := by
  simp [memWrite32, h, write32_alignAddr]

theorem memRead8_of_off (h : inVgaWindow s.cfg a = false) :
    memRead8 a s = (extract8 (read32 a s).1 a, (read32 a s).2) := by
  simp [memRead8, h, read32_alignAddr]

theorem memRead16_of_off (h : inVgaWindow s.cfg a = false) :
    memRead16 a s = (extract16 (read32 a s).1 a, (read32 a s).2) := by
  simp [memRead16, h, read32_alignAddr]

theorem memWrite8_of_off (h : inVgaWindow s.cfg a = false) (b : Byte) :
    memWrite8 a b s = write32 a (insert8 (read32 a s).1 a b) (read32 a s).2 := by
  simp [memWrite8, h, read32_alignAddr, write32_alignAddr]

theorem memWrite16_of_off (h : inVgaWindow s.cfg a = false) (v : Half) :
    memWrite16 a v s = write32 a (insert16 (read32 a s).1 a v) (read32 a s).2 := by
  simp [memWrite16, h, read32_alignAddr, write32_alignAddr]

theorem exec_mmioRd32_aligned (hd : s.dead = false) (h : OffWindow s a) :
    exec (.mmioRd32 (alignAddr a)) s = .next ((read32 a s).2.respond (.data (read32 a s).1)) := by
  rw [exec_mmioRd32 _ hd, memRead32_of_off h.2, read32_alignAddr]

/-- The 32-bit write at the aligned address, after the read there: the read's response is not seen (R89, R90). -/
theorem exec_mmioWr32_after_read (hd : s.dead = false) (h : OffWindow s a) (v : Word) :
    exec (.mmioWr32 (alignAddr a) v) ((read32 a s).2.respond (.data (read32 a s).1)) =
      .next ((write32 a v (read32 a s).2).respond .none) := by
  rw [exec_mmioWr32 _ (by simpa using hd), memWrite32_of_off (by simpa using h.2), write32_alignAddr, write32_respond]
  rfl

end

/-- Settles O17: a narrow read is the 32-bit read with its word cut. -/
theorem narrowReadIsASliceOfTheWordRead : Obligations.NarrowReadIsASliceOfTheWordRead := by
  intro s a hd h
  refine ⟨_, (read32 a s).1, exec_mmioRd32_aligned hd h, rfl, ?_, ?_⟩
  · rw [exec_mmioRd8 _ hd, memRead8_of_off h.1, extract8, laneShift_eq]; rfl
  · rw [exec_mmioRd16 _ hd, memRead16_of_off h.1, extract16, laneShift_eq]; rfl

/-- Settles O18: a narrow write is Read32, then Write32 of the word with its lanes replaced. -/
theorem narrowWriteIsReadModifyWrite : Obligations.NarrowWriteIsReadModifyWrite := by
  intro s a hd h
  refine ⟨_, (read32 a s).1, exec_mmioRd32_aligned hd h, rfl, fun b => ?_, fun v => ?_⟩
  · rw [exec_mmioWr32_after_read hd h, exec_mmioWr8 _ hd, memWrite8_of_off h.1, insert8, laneShift_eq]
  · rw [exec_mmioWr32_after_read hd h, exec_mmioWr16 _ hd, memWrite16_of_off h.1, insert16, laneShift_eq]

/-- Settles O19: off the window a 32-bit access goes to the arbiter, which aligns it. -/
theorem misalignedWordAccessIsNotRotated : Obligations.MisalignedWordAccessIsNotRotated := by
  intro s a v h
  have hread : memRead32 a s = memRead32 (alignAddr a) s := by
    rw [memRead32_of_off h.1, memRead32_of_off h.2, read32_alignAddr]
  have hwrite : memWrite32 a v s = memWrite32 (alignAddr a) v s := by
    rw [memWrite32_of_off h.1, memWrite32_of_off h.2, write32_alignAddr]
  refine ⟨alignAddr_toNat a, ?_, ?_⟩
  · simp only [exec_eq, finish, effect, hread, ne_eq, reduceCtorEq, Instr.wellFormed]
  · simp only [exec_eq, finish, effect, hwrite, ne_eq, reduceCtorEq, Instr.wellFormed]

end Sys2Proof.Machine
end

section
/-! Proofs about collaborators and frames (40_dispatch.md R74, 41_composer.md R85, R93, 20_memory.md R53): external and VGA
accesses, and what a read or a write of a register leaves alone. -/

namespace Sys2Proof.Machine

/-! ## Answers taken in a row -/

theorem afterCalls_nil (s : State) : afterCalls s [] 0 = s := by simp [afterCalls]

/-- A read call after k answers takes the k-th answer from here (R15). -/
theorem ask_afterCalls (s : State) (cs : List Call) (k : Nat) (c : Call) :
    (afterCalls s cs k).ask c = (answerAt s k, afterCalls s (cs ++ [c]) (k + 1)) := by
  have hcalls : ((afterCalls s cs k).emit c).calls = s.calls ++ (cs ++ [c]) := by simp [afterCalls]
  by_cases hk : k < s.answers.length
  · have hanswers : (afterCalls s cs k).answers = s.answers[k] :: s.answers.drop (k + 1) :=
      List.drop_eq_getElem_cons hk
    have hdraw : k - s.answers.length = k + 1 - s.answers.length := by omega
    simp only [State.ask, State.answer, State.afterAnswer, State.emit_answers, hanswers, answerAt, hk, dif_pos]
    simp [afterCalls, State.emit, hdraw]
  · have hanswers : (afterCalls s cs k).answers = [] := List.drop_eq_nil_of_le (by omega)
    have hdraw : k + 1 - s.answers.length = k - s.answers.length + 1 := by omega
    have hdrop : s.answers.drop (k + 1) = [] := List.drop_eq_nil_of_le (by omega)
    simp only [State.ask, State.answer, State.afterAnswer, State.emit_answers, hanswers, answerAt, hk, dif_neg,
      not_false_eq_true]
    simp [afterCalls, State.emit, hdraw, hdrop, Nat.add_assoc]

theorem ask_eq (s : State) (c : Call) : s.ask c = (answerAt s 0, afterCalls s [c] 1) := by
  have h := ask_afterCalls s [] 0 c
  rwa [afterCalls_nil] at h

/-! ## External accesses -/

section
variable {s : State} {a : Addr} {x : ExtSubsys} (h : route s (alignAddr a) = .external x)
include h

theorem read32_of_external :
    read32 a s = (answerAt s 0, afterCalls s [.extRead32 x (alignAddr a)] 1) := by
  simp only [read32, h, ask_eq]

theorem write32_of_external (v : Word) : write32 a v s = s.emit (.extWrite32 x (alignAddr a) v) := by
  simp only [write32, h]

end

/-- Settles O14: the composer reads and writes the word through the EXT port, and the read leaves the route as it was. -/
theorem externalAccessesAreForwarded : Obligations.ExternalAccessesAreForwarded := by
  intro s a x hd hw h
  refine ⟨?_, ?_, fun v => ?_, fun b => ?_⟩
  · rw [exec_mmioRd32 _ hd, memRead32_of_off hw, read32_of_external h]; rfl
  · rw [exec_mmioRd8 _ hd, memRead8_of_off hw, read32_of_external h, extract8_eq]; rfl
  · rw [exec_mmioWr32 _ hd, memWrite32_of_off hw, write32_of_external h]; rfl
  · have hafter : route (afterCalls s [.extRead32 x (alignAddr a)] 1) (alignAddr a) = .external x := h
    rw [exec_mmioWr8 _ hd, memWrite8_of_off hw, read32_of_external h, write32_of_external hafter]
    simp [State.emit, State.respond, afterCalls]

/-! ## The VGA window -/

theorem inVgaWindow_iff (c : Config) (a : Addr) :
    inVgaWindow c a = true ↔ ∃ w ∈ c.vgaWindows, w.start ≤ a.toNat ∧ a.toNat ≤ w.finish := by
  simp [inVgaWindow]

theorem vgaPort_eq (a : Addr) (i : Nat) : vgaPort a i = BitVec.ofNat 10 ((a.toNat + i) % 1024) := by
  apply BitVec.eq_of_toNat_eq
  simp only [vgaPort, BitVec.toNat_setWidth, BitVec.toNat_add, BitVec.toNat_ofNat]
  omega

/-- The first n answer bytes put together, byte 0 lowest (R85). -/
def answerBytes (s : State) : Nat → Word
  | 0 => 0
  | n + 1 => answerBytes s n ||| (((answerAt s n).setWidth 8).setWidth 32 <<< (8 * n))

/-- A VGA read asks for its bytes in order (R85). -/
theorem vgaRead_eq (a : Addr) (n : Nat) (s : State) :
    vgaRead a n s = (answerBytes s n, afterCalls s ((List.range n).map fun i => .vgaIn (vgaPort a i)) n) := by
  induction n with
  | zero => rw [List.range_zero, List.map_nil, afterCalls_nil]; rfl
  | succ n ih => simp only [vgaRead, ih, vgaIn, ask_afterCalls, List.range_succ, List.map_append]; rfl

/-- A VGA write sends its bytes in order (R85). -/
theorem vgaWrite_eq (a : Addr) (v : Word) (n : Nat) (s : State) :
    vgaWrite a v n s =
      { s with calls := s.calls ++ (List.range n).map fun i => .vgaOut (vgaPort a i) (lane v i) } := by
  induction n with
  | zero => simp [vgaWrite]
  | succ n ih => simp [vgaWrite, ih, State.emit, List.range_succ]

/-- One more byte above the bytes put together so far. -/
theorem or_shiftLeft_byte {n : Nat} (x : BitVec n) (b : Byte) (hn : n + 8 ≤ 32) :
    x.setWidth 32 ||| (b.setWidth 32 <<< n) = (b ++ x).setWidth 32 := by
  apply BitVec.eq_of_getLsbD_eq
  intro i hi
  simp only [BitVec.getLsbD_or, BitVec.getLsbD_shiftLeft, BitVec.getLsbD_setWidth, BitVec.getLsbD_append, hi,
    decide_true, Bool.true_and]
  by_cases h : i < n
  · simp [h]
  · simp [h, BitVec.getLsbD_of_ge x i (by omega), show i - n < 32 by omega]

/-- Four bytes side by side, bit by bit. -/
theorem append_four_getLsbD (b0 b1 b2 b3 : Byte) (i : Nat) :
    (b3 ++ b2 ++ b1 ++ b0).getLsbD i =
      if i < 8 then b0.getLsbD i else if i < 16 then b1.getLsbD (i - 8)
      else if i < 24 then b2.getLsbD (i - 16) else b3.getLsbD (i - 24) := by
  simp only [BitVec.getLsbD_append, show i - 8 < 8 ↔ i < 16 ∨ i < 8 by omega, show i - 8 - 8 = i - 16 by omega,
    show i - 16 < 8 ↔ i < 24 by omega, show i - 16 - 8 = i - 24 by omega]
  split_ifs <;> first | rfl | omega

theorem answerBytes_one (s : State) : answerBytes s 1 = ((answerAt s 0).setWidth 8).setWidth 32 := by
  simp [answerBytes]

theorem answerBytes_two (s : State) :
    answerBytes s 2 = ((answerAt s 1).setWidth 8 ++ (answerAt s 0).setWidth 8).setWidth 32 := by
  rw [answerBytes, answerBytes_one]
  exact or_shiftLeft_byte _ _ (by decide)

theorem answerBytes_four (s : State) :
    answerBytes s 4 = (answerAt s 3).setWidth 8 ++ (answerAt s 2).setWidth 8 ++ (answerAt s 1).setWidth 8 ++
      (answerAt s 0).setWidth 8 := by
  have three : answerBytes s 3 =
      ((answerAt s 2).setWidth 8 ++ ((answerAt s 1).setWidth 8 ++ (answerAt s 0).setWidth 8)).setWidth 32 := by
    rw [answerBytes, answerBytes_two]
    exact or_shiftLeft_byte (n := 8 + 8) _ _ (by decide)
  rw [answerBytes, three]
  refine (or_shiftLeft_byte (n := 8 + (8 + 8)) _ _ (by decide)).trans ?_
  apply BitVec.eq_of_getLsbD_eq
  intro i hi
  rw [append_four_getLsbD]
  simp only [BitVec.getLsbD_setWidth, BitVec.getLsbD_append, hi, decide_true, Bool.true_and]
  split_ifs <;> first | rfl | omega

/-- Settles O21: the window test is a search of the configured windows, and a read there is a sequence of calls. -/
theorem vgaReadsAskByteByByte : Obligations.VgaReadsAskByteByByte := by
  refine ⟨inVgaWindow_iff, fun s a hd hw => ?_⟩
  have hin := (inVgaWindow_iff s.cfg a).mpr hw
  have hbyte : ∀ i, BitVec.ofNat 8 (answerAt s i).toNat = (answerAt s i).setWidth 8 := fun i => BitVec.ofNat_toNat ..
  simp only [← vgaPort_eq, hbyte]
  refine ⟨?_, ?_, ?_⟩
  · rw [exec_mmioRd8 _ hd, memRead8, if_pos hin, vgaRead_eq, answerBytes_one]; rfl
  · rw [exec_mmioRd16 _ hd, memRead16, if_pos hin, vgaRead_eq, answerBytes_two]; rfl
  · rw [exec_mmioRd32 _ hd, memRead32, if_pos hin, vgaRead_eq, answerBytes_four]; rfl

theorem lane_eq_extractLsb' (w : Word) (k : Nat) : lane w k = w.extractLsb' (8 * k) 8 := by
  apply BitVec.eq_of_getLsbD_eq
  intro i hi
  rw [lane_getLsbD w k hi, BitVec.getLsbD_extractLsb']
  simp [hi]

/-- The bytes of a half are the low lanes of its zero extension. -/
theorem lane_setWidth_half (h : Half) {k : Nat} (hk : k < 2) : lane (h.setWidth 32) k = h.extractLsb' (8 * k) 8 := by
  apply BitVec.eq_of_getLsbD_eq
  intro i hi
  rw [lane_getLsbD _ k hi, BitVec.getLsbD_extractLsb', BitVec.getLsbD_setWidth]
  simp [hi, show 8 * k + i < 32 by omega]

/-- Settles O22: each width is the first bytes of its value zero-extended, sent in order. -/
theorem vgaWritesGoOutByteByByte : Obligations.VgaWritesGoOutByteByByte := by
  intro s a hd hw
  have hin := (inVgaWindow_iff s.cfg a).mpr hw
  simp only [← vgaPort_eq]
  refine ⟨fun b => ?_, fun v => ?_, fun v => ?_⟩
  · have hcalls : (List.range 1).map (fun i => Call.vgaOut (vgaPort a i) (lane (b.setWidth 32) i)) =
        [.vgaOut (vgaPort a 0) b] := by simp [lane]
    rw [exec_mmioWr8 _ hd, memWrite8, if_pos hin, vgaWrite_eq, hcalls]; rfl
  · have hlow := lane_setWidth_half v (k := 0) (by decide)
    have hhigh := lane_setWidth_half v (k := 1) (by decide)
    rw [exec_mmioWr16 _ hd, memWrite16, if_pos hin, vgaWrite_eq, ← hlow, ← hhigh]; rfl
  · rw [exec_mmioWr32 _ hd, memWrite32, if_pos hin, vgaWrite_eq]
    simp only [lane_eq_extractLsb']; rfl

/-! ## Storing registers -/

/-- A 16-bit insertion at an address, lane by lane: lane 4 does not exist (R90). -/
theorem lane_insert16 (w : Word) (a : Addr) (h : Half) {k : Nat} (hk : k < 4) :
    lane (insert16 w a h) k =
      if k = a.toNat % 4 then h.extractLsb' 0 8
      else if k = a.toNat % 4 + 1 then h.extractLsb' 8 8 else lane w k := by
  apply BitVec.eq_of_getLsbD_eq
  intro i hi
  rw [lane_getLsbD _ _ hi, insert16_getLsbD _ _ _ (by omega), show (8 * k + i) / 8 = k by omega,
    show (8 * k + i) % 8 = i by omega]
  split_ifs
  · simp [hi]
  · simp [hi]
  · rw [lane_getLsbD _ _ hi]

/-- A storing register reads back what was written to it, masked to the bits it stores (R79 to R82, R93, R95). -/
theorem registerWord_writeReg_same {r : Reg} {m : Word} (h : storedBits r = some m) (v : Word) (s : State) :
    registerWord (writeReg r v s) r = v &&& m := by
  cases r <;> cases h
  case coeff.refl g =>
    have hdiv : (writeReg (.coeff g) v s).divider g = unpackDivider v := by
      simp [writeReg, writeCoeff, State.setDivider_divider]
    rw [← packDivider_unpackDivider, ← hdiv]
    exact (readReg_value (.coeff g) _).symm
  all_goals rw [show (0xFFFFFFFF : Word) = BitVec.allOnes 32 from rfl, BitVec.and_allOnes]
  case intrEn.refl S => simp [registerWord, writeReg_pair]
  case ptimerTime0.refl =>
    have hv := v.isLt
    apply BitVec.eq_of_toNat_eq
    rw [writeReg, registerWord, toNat_append_eq_add, BitVec.toNat_ofNat]
    omega
  case ptimerTime1.refl =>
    have hv := v.isLt
    have hlow := (s.time.extractLsb' 0 32).isLt
    apply BitVec.eq_of_toNat_eq
    rw [writeReg, registerWord, toNat_append_eq_add, BitVec.toNat_ofNat]
    omega
  all_goals rfl

theorem storedBits_ne_pmcIntr0 {r : Reg} {m : Word} (h : storedBits r = some m) : r ≠ .pmcIntr0 := by
  rintro rfl; cases h

theorem registerWord_respond (s : State) (x : Response) (r : Reg) : registerWord (s.respond x) r = registerWord s r := by
  cases r
  case intr S | intrEn S => cases S <;> rfl
  case coeff g => cases g <;> rfl
  all_goals rfl

/-- Settles O20: the word that reaches the register has the targeted lanes replaced, and the register stores it masked. -/
theorem storingRegistersKeepUntargetedLanes : Obligations.StoringRegistersKeepUntargetedLanes := by
  intro s a r m hd h hm
  have hread := readReg_eq (storedBits_ne_pmcIntr0 hm) s
  refine ⟨fun b => ⟨_, exec_mmioWr8 _ hd b, fun k hk => ?_⟩, fun v => ⟨_, exec_mmioWr16 _ hd v, fun k hk => ?_⟩,
    fun v => ⟨_, exec_mmioWr32 _ hd v, ?_⟩⟩
  all_goals rw [registerWord_respond]
  · rw [memWrite8_of_reaches h, hread, registerWord_writeReg_same hm, lane_and, insert8_eq_setLane, lane_setLane _ _ _ hk]
  · rw [memWrite16_of_reaches h, hread, registerWord_writeReg_same hm, lane_and, lane_insert16 _ _ _ hk]
  · rw [memWrite32_of_reaches h, registerWord_writeReg_same hm]

end Sys2Proof.Machine
end

section
/-! Proofs about MMIO reads and writes of registers (40_dispatch.md R76 to R83, 42_clock_timer.md R95, R103 to R106): their
frames, and the write rule of each register. -/

namespace Sys2Proof.Machine

/-! ## The frame of a read -/

/-- `t` differs from `s` in what a read may change (R53): AGG, stored fresh; LINE, driven low; the calls and answers; the
response. -/
def ReadFrame (s t : State) : Prop :=
  ∃ agg line calls answers draws x,
    t = { s with
          agg := agg, line := line, calls := calls, answers := answers, drawCount := draws, response := x } ∧
    (agg = s.agg ∨ agg = aggregate s) ∧ (line = true → s.line = true)

theorem State.afterAnswer_eq (s : State) :
    s.afterAnswer =
      { s with answers := s.answers.drop 1, drawCount := s.drawCount + (1 - s.answers.length) } := by
  unfold State.afterAnswer
  split <;> simp_all

theorem readFrame_readsKeep (s : State) : ReadsKeep (ReadFrame s) where
  emit c := by
    rintro ⟨agg, line, calls, answers, draws, x, rfl, hagg, hline⟩
    exact ⟨agg, line, calls ++ [c], answers, draws, x, rfl, hagg, hline⟩
  answer := by
    rintro _ ⟨agg, line, calls, answers, draws, x, rfl, hagg, hline⟩
    exact ⟨agg, line, calls, _, _, x, State.afterAnswer_eq _, hagg, hline⟩
  refresh := by
    rintro _ ⟨agg, line, calls, answers, draws, x, rfl, -, hline⟩
    refine ⟨aggregate s, _, _, answers, draws, x, recompute_eq _ _, .inr rfl, fun h => hline ?_⟩
    change ((if _ then LineAction.deassert else LineAction.hold).level line) = true at h
    split at h
    · cases h
    · exact h
  respond y := by
    rintro ⟨agg, line, calls, answers, draws, x, rfl, hagg, hline⟩
    exact ⟨agg, line, calls, answers, draws, y, rfl, hagg, hline⟩

/-- Settles O23: each part of a read stays in the frame. -/
theorem readsLeaveTheRegistersAlone : Obligations.ReadsLeaveTheRegistersAlone := by
  intro i s t hi he
  obtain rfl := exec_next he
  have hrefl : ReadFrame s s := ⟨_, _, _, _, _, _, rfl, .inl rfl, id⟩
  obtain ⟨agg, line, calls, answers, draws, x, heq, hagg, hline⟩ := (readFrame_readsKeep s).finish hi hrefl
  rw [heq]
  exact ⟨rfl, hagg, hline⟩

/-! ## The write rules -/

/-- PMC_INTR_0 takes its write under BIT31_SETS alone (R77). -/
theorem writePmcIntr_of_bit31Sets {s : State} (h : s.cfg.swTrigger = .bit31Sets) (v : Word) :
    writePmcIntr v s = recompute true { s with swStatus := v.getLsbD 31 } := by
  simp only [writePmcIntr, h]

theorem writePmcIntr_of_none {s : State} (h : s.cfg.swTrigger = .none) (v : Word) : writePmcIntr v s = s := by
  simp only [writePmcIntr, h]

section
variable {r : Reg} (v : Word) (s : State)

theorem writeReg_swStatus (h : r ≠ .pmcIntr0) : (writeReg r v s).swStatus = s.swStatus := by
  cases r
  case pmcIntr0 => exact absurd rfl h
  all_goals simp [writeReg, writePmcIntrEn, writeCoeff]

theorem writeReg_globalEn (h : r ≠ .pmcIntrEn0) :
    (writeReg r v s).globalEnHw = s.globalEnHw ∧ (writeReg r v s).globalEnSw = s.globalEnSw := by
  cases r
  case pmcIntrEn0 => exact absurd rfl h
  case pmcIntr0 => simp only [writeReg, writePmcIntr]; split <;> simp
  all_goals simp [writeReg, writeCoeff]

/-- Each plain word is written through its own register alone. -/
theorem writeReg_plain (r : Reg) :
    (r ≠ .pmcEnable → (writeReg r v s).pmcEnable = s.pmcEnable) ∧
      (r ≠ .pfbConfig0 → (writeReg r v s).pfbConfig0 = s.pfbConfig0) ∧
      (r ≠ .ptimerNumerator → (writeReg r v s).num = s.num) ∧
      (r ≠ .ptimerDenominator → (writeReg r v s).den = s.den) ∧
      (r ≠ .ptimerAlarm0 → (writeReg r v s).alarm = s.alarm) := by
  cases r
  case pmcIntr0 => simp only [writeReg, writePmcIntr]; split <;> simp
  all_goals simp [writeReg, writePmcIntrEn, writeCoeff]

/-- A half of TIME is written through its own register alone (R105). -/
theorem writeReg_timeLow (h : r ≠ .ptimerTime0) : (writeReg r v s).time.toNat % 2 ^ 32 = s.time.toNat % 2 ^ 32 := by
  cases r
  case ptimerTime0 => exact absurd rfl h
  case pmcIntr0 => simp only [writeReg, writePmcIntr]; split <;> simp
  case ptimerTime1 => rw [writeReg, toNat_append_eq_add, BitVec.extractLsb'_toNat]; omega
  all_goals simp [writeReg, writePmcIntrEn, writeCoeff]

theorem writeReg_timeHigh (h : r ≠ .ptimerTime1) : (writeReg r v s).time.toNat / 2 ^ 32 = s.time.toNat / 2 ^ 32 := by
  cases r
  case ptimerTime1 => exact absurd rfl h
  case pmcIntr0 => simp only [writeReg, writePmcIntr]; split <;> simp
  case ptimerTime0 =>
    have hv := v.isLt
    have ht := s.time.isLt
    rw [writeReg, toNat_append_eq_add, BitVec.extractLsb'_toNat, Nat.shiftRight_eq_div_pow]
    omega
  all_goals simp [writeReg, writePmcIntrEn, writeCoeff]

theorem writeReg_divider (r : Reg) (g : Gen) :
    (writeReg r v s).divider g = if r = .coeff g then unpackDivider v else s.divider g := by
  cases r
  case coeff k => simp [writeReg, writeCoeff, State.setDivider_divider, eq_comm]
  case pmcIntr0 => simp only [writeReg, writePmcIntr]; split <;> cases g <;> simp [State.divider]
  all_goals cases g <;> simp [writeReg, writePmcIntrEn, State.divider]

theorem writeReg_timer {g : Gen} (h : r ≠ .coeff g) : (writeReg r v s).timer g = s.timer g := by
  cases r
  case coeff k =>
    have hne : g ≠ k := fun hg => h (hg ▸ rfl)
    simp [writeReg, writeCoeff, programTimer_timer, hne]
  case pmcIntr0 => simp only [writeReg, writePmcIntr]; split <;> cases g <;> simp [State.timer]
  all_goals cases g <;> simp [writeReg, writePmcIntrEn, State.timer]

end

/-- A register that is not the one written, nor the aggregate's view, reads as before. -/
theorem registerWord_writeReg_other {r r' : Reg} (h : r' ≠ r) (h0 : r' ≠ .pmcIntr0) (v : Word) (s : State) :
    registerWord (writeReg r v s) r' = registerWord s r' := by
  obtain ⟨hpmcEnable, hpfbConfig0, hnum, hden, halarm⟩ := writeReg_plain v s r
  cases r'
  case pmcIntr0 => exact absurd rfl h0
  case pmcBoot0 | pextdevBoot0 => simp only [registerWord, writeReg_cfg]
  case pmcIntrEn0 =>
    obtain ⟨hhw, hsw⟩ := writeReg_globalEn v s h.symm
    simp only [registerWord, writeReg_cfg, hhw, hsw]
  case pmcEnable => exact hpmcEnable h.symm
  case intr S => rw [registerWord, writeReg_pair, if_neg h.symm, registerWord]; split <;> rfl
  case intrEn S => rw [registerWord, writeReg_pair, if_neg h.symm, registerWord]; split <;> rfl
  case ptimerNumerator => exact hnum h.symm
  case ptimerDenominator => exact hden h.symm
  case ptimerTime0 =>
    apply BitVec.eq_of_toNat_eq
    simpa only [registerWord, BitVec.toNat_ofNat] using writeReg_timeLow v s h.symm
  case ptimerTime1 => rw [registerWord, writeReg_timeHigh v s h.symm, registerWord]
  case ptimerAlarm0 => exact halarm h.symm
  case pfbConfig0 => exact hpfbConfig0 h.symm
  case coeff g => rw [registerWord, writeReg_divider, if_neg h.symm, registerWord]

/-! ## The frame of a write -/

theorem registerWord_recompute (b : Bool) (s : State) (r : Reg) : registerWord (recompute b s) r = registerWord s r := by
  rw [recompute_eq]
  cases r
  case intr S | intrEn S => cases S <;> rfl
  case coeff g => cases g <;> rfl
  all_goals rfl

/-- The state a register's write rule runs on, and its value: a narrow write has the read phase before it (R89 to R91). -/
theorem finish_of_write_reaches {i : Instr} {s : State} {a : Addr} {r : Reg} (hi : writesAt i = some a)
    (h : Reaches s a r) :
    ∃ v u, (u = s ∨ u = (readReg r s).2) ∧ finish i s = (writeReg r v u).respond .none := by
  cases i <;> cases hi
  case mmioWr8 b => exact ⟨_, _, .inr rfl, congrArg (State.respond · .none) (memWrite8_of_reaches h b)⟩
  case mmioWr16 v => exact ⟨_, _, .inr rfl, congrArg (State.respond · .none) (memWrite16_of_reaches h v)⟩
  case mmioWr32 v => exact ⟨_, _, .inl rfl, congrArg (State.respond · .none) (memWrite32_of_reaches h v)⟩

/-- A read phase leaves every register's word and every host timer. -/
theorem registerWord_readReg (r r' : Reg) (s : State) : registerWord (readReg r s).2 r' = registerWord s r' := by
  cases r
  case pmcIntr0 => exact registerWord_recompute false s r'
  all_goals rfl

/-- The registers whose write can change neither AGG nor LINE nor a call: plain words and read-only ones. -/
def quietRegs : List Reg :=
  [.pmcBoot0, .pmcEnable, .pfbConfig0, .pextdevBoot0, .ptimerNumerator, .ptimerDenominator,
    .ptimerTime0, .ptimerTime1, .ptimerAlarm0]

theorem writeReg_quiet {r : Reg} (h : r ∈ quietRegs) (v : Word) (s : State) :
    SameIrq s (writeReg r v s) ∧ (writeReg r v s).calls = s.calls := by
  simp only [quietRegs, List.mem_cons, List.not_mem_nil, or_false] at h
  rcases h with rfl | rfl | rfl | rfl | rfl | rfl | rfl | rfl | rfl
  all_goals exact ⟨by constructor <;> rfl, rfl⟩

theorem sameIrq_writeCoeff (g : Gen) (v : Word) (s : State) : SameIrq s (writeReg (.coeff g) v s) := by
  constructor <;> simp [writeReg, writeCoeff]

/-- Settles O24: the write rule's frame, on the state before it or, at PMC_INTR_0, the state its read phase leaves. -/
theorem writesChangeOnlyTheAddressedRegister : Obligations.WritesChangeOnlyTheAddressedRegister := by
  intro i s t a r hi h he
  obtain ⟨v, u, hu, hfinish⟩ := finish_of_write_reaches hi h
  obtain rfl := (exec_next he).trans hfinish
  have hword : ∀ r', registerWord u r' = registerWord s r' := by
    rcases hu with rfl | rfl <;> simp [registerWord_readReg]
  have hsame : r ≠ .pmcIntr0 → u = s := fun hr => by
    rcases hu with rfl | rfl
    · rfl
    · rw [readReg_eq hr]
  refine ⟨fun r' hne h0 => ?_, fun hr => ?_, fun g hg => ?_, fun hr => ?_, fun g hg => ?_, ?_⟩
  · rw [registerWord_respond, registerWord_writeReg_other hne h0, hword]
  · rw [State.respond_swStatus, writeReg_swStatus v u hr, hsame hr]
  · rw [State.respond_timer, writeReg_timer v u hg]
    rcases hu with rfl | rfl <;> simp
  · obtain ⟨hirq, hcalls⟩ := writeReg_quiet hr v u
    have hne : r ≠ .pmcIntr0 := by rintro rfl; revert hr; decide
    obtain rfl := hsame hne
    exact ⟨hirq.aggregate_eq, hirq.agg, hirq.line, hcalls⟩
  · subst hg
    obtain rfl := hsame nofun
    have hirq := sameIrq_writeCoeff g v u
    exact ⟨hirq.aggregate_eq, hirq.agg, hirq.line⟩
  · rcases hu with rfl | rfl <;> simp

/-! ## The write rule of each register -/

/-- Settles O25: each write rule, with TIME's halves put together by arithmetic. -/
theorem plainRegistersStore : Obligations.PlainRegistersStore := by
  intro s a v hd
  have hv := v.isLt
  have ht := s.time.isLt
  have hlow : s.time.extractLsb' 32 32 ++ v = BitVec.ofNat 64 (s.time.toNat / 2 ^ 32 * 2 ^ 32 + v.toNat) := by
    apply BitVec.eq_of_toNat_eq
    rw [toNat_append_eq_add, BitVec.extractLsb'_toNat, Nat.shiftRight_eq_div_pow, BitVec.toNat_ofNat]
    omega
  have hhigh : v ++ s.time.extractLsb' 0 32 = BitVec.ofNat 64 (v.toNat * 2 ^ 32 + s.time.toNat % 2 ^ 32) := by
    apply BitVec.eq_of_toNat_eq
    rw [toNat_append_eq_add, BitVec.extractLsb'_toNat, Nat.shiftRight_eq_div_pow, BitVec.toNat_ofNat]
    omega
  refine ⟨fun h => ?_, fun h => ?_, fun h => ?_, fun h => ?_, fun h => ?_, fun h => ?_⟩
  all_goals rw [exec_mmioWr32 _ hd, memWrite32_of_reaches h]
  case refine_5 => rw [writeReg, hlow]; rfl
  case refine_6 => rw [writeReg, hhigh]; rfl
  all_goals rfl

/-- Settles O26: neither the write rule nor the read phase of these two registers has an effect. -/
theorem readOnlyRegistersIgnoreWrites : Obligations.ReadOnlyRegistersIgnoreWrites := by
  intro s a r hd h hr
  have hread : (readReg r s).2 = s := by rcases hr with rfl | rfl <;> rfl
  have hwrite : ∀ v, writeReg r v s = s := by rintro v; rcases hr with rfl | rfl <;> rfl
  refine ⟨fun b => ?_, fun v => ?_, fun v => ?_⟩
  · rw [exec_mmioWr8 _ hd, memWrite8_of_reaches h, hread, hwrite]; rfl
  · rw [exec_mmioWr16 _ hd, memWrite16_of_reaches h, hread, hwrite]; rfl
  · rw [exec_mmioWr32 _ hd, memWrite32_of_reaches h, hwrite]; rfl

/-- Settles O28: every width ends in the write rule, which stores the unpacked word and programs the timer. -/
theorem dividerWritesReprogramTheTimer : Obligations.DividerWritesReprogramTheTimer := by
  intro s a g hd h reprogrammed
  have hrule : ∀ v, reprogrammed v ((writeReg (.coeff g) v s).respond .none) := by
    intro v
    refine ⟨?_, fun k hk => ⟨?_, ?_⟩, ?_, ?_, ?_, ?_⟩
    · rw [State.respond_divider, writeReg_divider, if_pos rfl]; rfl
    · rw [State.respond_divider, writeReg_divider, if_neg fun hg => hk (Reg.coeff.inj hg).symm]
    · rw [State.respond_timer, writeReg_timer v s fun hg => hk (Reg.coeff.inj hg).symm]
    · simp [writeReg, writeCoeff, programTimer_timer, State.setDivider_divider]; rfl
    · simp [writeReg, writeCoeff, programTimer_calls, State.setDivider_divider]; rfl
    · exact (sameIrq_writeCoeff g v s).line
    · exact (sameIrq_writeCoeff g v s).agg
  have hread : readReg (.coeff g) s = (packDivider (s.divider g), s) := rfl
  refine ⟨?_, fun v => ⟨_, ?_, hrule v⟩, fun b => ⟨_, ?_, hrule _⟩, fun v => ⟨_, ?_, hrule _⟩⟩
  · rw [exec_mmioRd32 _ hd, memRead32_of_reaches h, hread]; rfl
  · rw [exec_mmioWr32 _ hd, memWrite32_of_reaches h]
  · rw [exec_mmioWr8 _ hd, memWrite8_of_reaches h, hread]
  · rw [exec_mmioWr16 _ hd, memWrite16_of_reaches h, hread]

/-! ## The interrupt words -/

/-- From a low line a dispatch leaves it high exactly if that is justified, under either SUPPRESS_MODE (R129). -/
theorem lineExact_dispatch_of_low {s : State} (h : s.line = false) : LineExact (recompute true s) := by
  rcases dispatch_line s with hexact | ⟨-, -, -, hj, hline⟩
  · exact hexact
  · have hlow : (recompute true s).line ≠ true := by rw [hline, h]; exact Bool.false_ne_true
    exact ⟨fun hhigh => absurd hhigh hlow, fun hjust => absurd hjust hj⟩

theorem readReg_intr (S : PairSource) (s : State) : readReg (.intr S) s = ((s.pair S).status, s) := rfl

/-- Settles O29: the write rule is W1C (R127), whose Recompute starts from the line it has just deasserted. -/
theorem statusWritesClearAndRecompute : Obligations.StatusWritesClearAndRecompute := by
  intro s a S hd cleared
  have hrule : ∀ v, (writeReg (.intr S) v s).respond .none = recompute true (cleared v) := by
    intro v
    change (recompute true _).respond .none = _
    rw [← recompute_respond]
    exact congrArg (recompute true) (by cases S <;> rfl)
  refine ⟨fun h => ⟨?_, fun v => ?_, fun b => ?_, fun v => ?_, fun v => lineExact_dispatch_of_low rfl⟩, fun hw hg => ?_⟩
  · rw [exec_mmioRd32 _ hd, memRead32_of_reaches h]; rfl
  · rw [exec_mmioWr32 _ hd, memWrite32_of_reaches h, hrule]
  · rw [exec_mmioWr8 _ hd, memWrite8_of_reaches h, readReg_intr, hrule]
  · rw [exec_mmioWr16 _ hd, memWrite16_of_reaches h, readReg_intr, hrule]
  · obtain ⟨-, -, -, h8, h16, h32⟩ := benignAccessesReadZeroAndDiscard s a hd ⟨hw, .inr (.inl ⟨_, hg⟩)⟩
    exact ⟨h32, h8, h16⟩

theorem lane_not (w : Word) {k : Nat} (hk : k < 4) : lane (~~~w) k = ~~~lane w k := by
  apply BitVec.eq_of_getLsbD_eq
  intro i hi
  rw [lane_getLsbD _ _ hi, BitVec.getLsbD_not, BitVec.getLsbD_not, lane_getLsbD _ _ hi]
  simp [hi, show 8 * k + i < 32 by omega]

/-- Settles O30: the word written has the other lanes as read, so W1C clears them (R147). -/
theorem narrowStatusWriteClearsOtherLanes : Obligations.NarrowStatusWriteClearsOtherLanes := by
  intro s a S b hd h
  refine ⟨_, exec_mmioWr8 _ hd b, fun k hk => ?_⟩
  rw [State.respond_pair, memWrite8_of_reaches h, readReg_intr, writeReg_pair, if_pos rfl, lane_and, lane_not _ hk,
    insert8_eq_setLane, lane_setLane _ _ _ hk]
  split_ifs
  · rfl
  · exact BitVec.and_not_self _

/-- Settles O31: the write rule of an enable word (R81). -/
theorem enableWritesStoreAndRecompute : Obligations.EnableWritesStoreAndRecompute := by
  intro s a S v hd h
  rw [exec_mmioWr32 _ hd, memWrite32_of_reaches h, writeReg, ← recompute_respond]
  rfl

/-- Settles O32: the write rules of the two PMC words (R77, R78). -/
theorem masterInterruptWrites : Obligations.MasterInterruptWrites := by
  intro s a v hd
  have hbit : v.getLsbD 31 = decide (2 ^ 31 ≤ v.toNat) := by
    rw [Bool.eq_iff_iff, getLsbD_31_iff, decide_eq_true_eq]
  refine ⟨fun h hset => ?_, fun h hnone => ?_, fun h => ?_⟩ <;> rw [exec_mmioWr32 _ hd, memWrite32_of_reaches h, writeReg]
  · rw [writePmcIntr_of_bit31Sets hset, ← recompute_respond, hbit]; rfl
  · rw [writePmcIntr_of_none hnone]; rfl
  · rw [writePmcIntrEn, ← recompute_respond]; rfl

end Sys2Proof.Machine
end

section
/-! Proofs about ticks, host inputs, teardown and reset (42_clock_timer.md R100, R101, 44_host_inputs.md R117 to R119,
70_reset_and_hazards.md R141). -/

namespace Sys2Proof.Machine

/-! ## Ticks -/

/-- On a live block an ill-formed transaction is refused, and the refusal leaves the mark (R64, log entry 7). -/
theorem exec_of_illFormed {i : Instr} {s : State} (hw : ¬ i.wellFormed = true) (hd : s.dead = false) :
    exec i s = .refused (refuseIllegal .nonPositiveElapsed s) := by
  rw [exec_eq, if_neg (by simp [hd]), if_neg hw]

theorem positiveElapsed_iff (e : Q) : positiveElapsed e = true ↔ 0 < e := by
  rw [positiveElapsed, decide_eq_true_eq, Rat.num_pos]

theorem tickMclk_of_stopped {s : State} (h : s.mclkTimer.running = false) (e : Q) : tickMclk e s = s := by
  simp [tickMclk, h]

/-- Settles O39: a tick that is refused fails its one test, and one that is taken has no effect. -/
theorem ticksWithoutEffect : Obligations.TicksWithoutEffect := by
  intro s e hd
  refine ⟨fun he => ?_, fun he hstop => ?_, fun he => ?_⟩
  · rw [exec_of_live (i := .tickVclk e) ((positiveElapsed_iff e).mpr he) hd]; rfl
  · rw [exec_of_live (i := .tickMclk e) ((positiveElapsed_iff e).mpr he) hd, finish, effect, tickMclk_of_stopped hstop]; rfl
  · have hpos : ¬ positiveElapsed e = true := fun h => absurd ((positiveElapsed_iff e).mp h) (not_lt.mpr he)
    exact ⟨exec_of_illFormed (i := .tickVclk e) hpos hd, exec_of_illFormed (i := .tickMclk e) hpos hd⟩

/-- The scaled cycles of R101 over one denominator. -/
theorem tickAmount_eq (s : State) (e : Q) :
    tickAmount s e =
      e * ((s.cfg.crystalHz * max s.mclkDiv.n.toNat 1 * s.num.toNat * (s.cfg.fixQuotient.numPred + 1) : Nat) : Q) /
        ((max s.mclkDiv.m.toNat 1 * 2 ^ s.mclkDiv.p.toNat * 1000000 * s.den.toNat *
          (s.cfg.fixQuotient.denPred + 1) : Nat) : Q) := by
  rw [tickAmount, mclkCycles, frequency, posRatValue]
  push_cast
  simp only [div_eq_mul_inv, mul_inv]
  ring

/-- The alarm compares TIME with ALARM as numbers (R36, R101). -/
theorem alarmDue_iff (s : State) : alarmDue s = true ↔ s.alarm.toNat ≤ s.time.toNat := by
  rw [alarmDue, decide_eq_true_eq, BitVec.le_def, BitVec.toNat_setWidth, Nat.mod_eq_of_lt]
  have := s.alarm.isLt
  omega

/-- Settles O40: the increment is the floor of the amount over one denominator, and the alarm is compared afterwards. -/
theorem mclkTickAdvancesTimeAndAlarm : Obligations.MclkTickAdvancesTimeAndAlarm := by
  intro s e hd he hrun x delta now
  have hdelta : tickDelta s e = delta := by
    have hamount : tickAmount s e = x := tickAmount_eq s e
    cases hbits : s.cfg.tickIncBits <;> simp only [tickDelta, delta, hamount, hbits]
  have htime : advanceTime e s = { s with time := BitVec.ofNat 64 now } := by
    have hnow : s.time + BitVec.ofNat 64 delta = BitVec.ofNat 64 now := by
      apply BitVec.eq_of_toNat_eq
      simp [now, BitVec.toNat_add]
    rw [advanceTime, hdelta, hnow]
  have hdue : alarmDue { s with time := BitVec.ofNat 64 now } = true ↔ s.alarm.toNat ≤ now := by
    rw [alarmDue_iff, BitVec.toNat_ofNat, Nat.mod_mod]
  rw [exec_of_live (i := .tickMclk e) ((positiveElapsed_iff e).mpr he) hd, finish, effect, tickMclk, if_pos hrun, htime,
    evaluateAlarm]
  split_ifs with hnow halarm halarm
  · rw [raiseStatus, ← recompute_respond]; rfl
  · exact absurd (hdue.mp hnow) halarm
  · exact absurd (hdue.mpr halarm) hnow
  · rfl

/-! ## Event inputs -/

/-- Settles O50: RAISE_INTR reads no gate (R71, R117). -/
theorem raiseSetsStatusBits : Obligations.RaiseSetsStatusBits := by
  intro s S mask hd
  rw [exec_of_live rfl hd, finish, effect, raiseStatus, ← recompute_respond]
  rfl

/-- Settles O51: GR_PENDING stores its two bits before the Recompute (R118). -/
theorem graphicsPendingIsStored : Obligations.GraphicsPendingIsStored := by
  intro s g0 g1 hd
  rw [exec_of_live rfl hd, finish, effect, ← recompute_respond]
  rfl

/-- Settles O48: RMA_MODE_WR writes one byte of the state (R115). -/
theorem rmaModeWriteStoresTheByte : Obligations.RmaModeWriteStoresTheByte :=
  fun _ _ hd => exec_of_live rfl hd

/-! ## Teardown -/

theorem destroyTimer_timer (g k : Gen) (s : State) :
    (destroyTimer g s).timer k =
      if k = g ∧ (s.timer g).created = true then { s.timer g with created := false, running := false }
      else s.timer k := by
  unfold destroyTimer
  split <;> simp_all [State.setTimer_timer]

/-- Settles O52: each generator is destroyed once, VCLK first, if it was created (R119). -/
theorem teardownDestroysTheTimers : Obligations.TeardownDestroysTheTimers := by
  intro s hd
  have htimer : ∀ g, (finish .teardown s).timer g =
      if (s.timer g).created = true then { s.timer g with created := false, running := false } else s.timer g := by
    intro g
    change (destroyTimer .mclk (destroyTimer .vclk s)).timer g = _
    rw [destroyTimer_timer, destroyTimer_timer, destroyTimer_timer]
    cases g <;> simp
  have hcalls : (finish .teardown s).calls = s.calls ++
      (if s.vclkTimer.created then [.timerDestroy .vclk] else []) ++
      (if s.mclkTimer.created then [.timerDestroy .mclk] else []) := by
    change (destroyTimer .mclk (destroyTimer .vclk s)).calls = _
    rw [destroyTimer_calls, destroyTimer_calls, destroyTimer_timer]
    simp only [State.timer, reduceCtorEq, false_and, if_false]
    rfl
  refine ⟨finish .teardown s, exec_of_live rfl hd, rfl, fun g hg => ?_, fun g hg => ?_, hcalls, ?_⟩
  · rw [htimer, if_pos hg]; exact ⟨rfl, rfl⟩
  · rw [htimer, if_neg (by simp [hg])]
  · change { destroyTimer .mclk (destroyTimer .vclk s) with dead := true, response := .none } = _
    simp [finish, effect, State.respond]

/-! ## Reset -/

theorem packDivider_unpackDivider_setWidth (v : BitVec 19) :
    packDivider (unpackDivider (v.setWidth 32)) = v.setWidth 32 := by
  rw [packDivider_unpackDivider]
  exact setWidth_and_mask (by decide) v

/-- But for the host timers and the calls, RESET gives every element its reset value; the parameters, the offers and the
refused mark stay (R142). -/
theorem finish_reset_eq (s : State) :
    finish .reset s =
      { State.atReset s.cfg with
        vclkTimer := (resetBlock s).vclkTimer, mclkTimer := (resetBlock s).mclkTimer, calls := (resetBlock s).calls
        refused := s.refused, inbox := s.inbox, answers := s.answers, drawCount := s.drawCount, response := .none } := by
  change (resetBlock s).respond .none = _
  rw [resetBlock_frame, clearedByReset_eq]
  rfl

theorem clearedByReset_cfg (s : State) : (clearedByReset s).cfg = s.cfg := by rw [clearedByReset_eq]; rfl

theorem clearedByReset_timer (s : State) (g : Gen) :
    ((clearedByReset s).timer g).created = false ∧ ((clearedByReset s).timer g).running = false := by
  rw [clearedByReset_eq]
  cases g <;> exact ⟨rfl, rfl⟩

theorem resetBlock_divider (s : State) (g : Gen) : (clearedByReset s).divider g = (resetBlock s).divider g := by
  rw [resetBlock_frame]
  cases g <;> rfl

theorem resetBlock_timer (s : State) (ht : s.cfg.timersAtReset = true) (g : Gen) :
    (resetBlock s).timer g = ⟨true, true, timerPeriod s.cfg ((resetBlock s).divider g)⟩ := by
  rw [← resetBlock_divider, resetBlock_eq, if_pos ht, programTimer_timer, programTimer_timer, programTimer_timer]
  cases g <;> simp [clearedByReset_timer, clearedByReset_cfg]

theorem resetBlock_calls (s : State) (ht : s.cfg.timersAtReset = true) :
    (resetBlock s).calls = (clearedByReset s).calls ++
      [.timerCreate .vclk (timerPeriod s.cfg ((resetBlock s).divider .vclk)), .timerStart .vclk,
       .timerCreate .mclk (timerPeriod s.cfg ((resetBlock s).divider .mclk)), .timerStart .mclk] := by
  rw [← resetBlock_divider, ← resetBlock_divider, resetBlock_eq, if_pos ht, programTimer_calls, programTimer_calls,
    programTimer_timer]
  simp [clearedByReset_timer, clearedByReset_cfg]

/-- Settles O53: the elements by `finish_reset_eq`, the timers and the calls by Program on the cleared state (R141 to
R143). -/
theorem resetRestoresEveryElement : Obligations.ResetRestoresEveryElement := by
  intro s
  refine ⟨finish .reset s, by rw [exec_eq, if_neg fun h => h.2 rfl]; rfl, ?_⟩
  rw [finish_reset_eq]
  refine ⟨rfl, fun S => by cases S <;> rfl, rfl, rfl, rfl, rfl, rfl, rfl, rfl, packDivider_unpackDivider_setWidth _,
    packDivider_unpackDivider_setWidth _, rfl, rfl, rfl, rfl, rfl, rfl, rfl, rfl, rfl, rfl, rfl, rfl, ?_⟩
  rw [← clearedByReset_calls]
  refine ⟨fun ht => ?_, fun ht => ?_⟩
  · have hreset : resetBlock s = clearedByReset s := by rw [resetBlock_eq, if_neg (by simp [ht])]
    rw [hreset]
    exact ⟨fun g => clearedByReset_timer s g, rfl⟩
  · rw [← finish_reset_eq]
    exact ⟨fun g => resetBlock_timer s ht g, resetBlock_calls s ht⟩

end Sys2Proof.Machine
end

section
/-! Proofs about the real-mode access shifter (43_rma.md R107 to R114, 95_test_vectors.md E2). -/

namespace Sys2Proof.Machine

/-! ## Ports and targets -/

theorem rmaPort_of_low {p : Byte} {k : Fin 4} (hp : p.toNat = k.val) : rmaPort p = .low k := by
  rw [← rmaPort_low, ← hp, BitVec.ofNat_toNat, BitVec.setWidth_eq]

theorem rmaPort_of_data {p : Byte} {k : Fin 4} (hp : p.toNat = 8 + k.val) : rmaPort p = .data k := by
  rw [← rmaPort_data, ← hp, BitVec.ofNat_toNat, BitVec.setWidth_eq]

theorem rmaPort_undefined {p : Byte} (hp : (4 ≤ p.toNat ∧ p.toNat < 8) ∨ 12 ≤ p.toNat) : rmaPort p = .undefined := by
  rw [rmaPort, if_neg (by omega), if_neg (by omega)]

theorem rmaTarget_of_lt {t : Word} (h : t.toNat < 2 ^ 24) : rmaTarget t = .register (BitVec.ofNat 24 t.toNat) := by
  rw [BitVec.ofNat_toNat]
  exact if_pos h

theorem rmaTarget_of_ge {t : Word} (h : 2 ^ 24 ≤ t.toNat) : rmaTarget t = .vram (BitVec.ofNat 32 (t.toNat - 2 ^ 24)) := by
  have hsub : t - aperture = BitVec.ofNat 32 (t.toNat - 2 ^ 24) := by
    apply BitVec.eq_of_toNat_eq
    simp [aperture, BitVec.toNat_sub]
    omega
  rw [← hsub]
  exact if_neg (Nat.not_lt.mpr h)

/-! ## RMA_IN -/

theorem exec_rmaIn {s : State} (p : Byte) (hd : s.dead = false) :
    exec (.rmaIn p) s = .next ((rmaRead p s).2.respond (.byte (rmaRead p s).1)) :=
  exec_of_live (i := .rmaIn p) rfl hd

/-- Settles O42: a port that makes no access answers by its class alone (R107, R108, R111). -/
theorem rmaInFixedPorts : Obligations.RmaInFixedPorts := by
  intro s p hd
  refine ⟨fun hp => ?_, fun hp => ?_, fun hlo hhi ht => ?_⟩
  · rw [exec_rmaIn p hd, rmaRead, rmaPort_of_low (k := ⟨p.toNat, hp⟩) rfl, ← lane_eq_extractLsb']; rfl
  · rw [exec_rmaIn p hd, rmaRead, rmaPort_undefined hp]; rfl
  · have hdata : rmaPort p = .data ⟨p.toNat - 8, by omega⟩ :=
      rmaPort_of_data (by change p.toNat = 8 + (p.toNat - 8); omega)
    have hmode : txnMode s = false := ht
    simp only [exec_rmaIn p hd, rmaRead, hdata, hmode]
    rfl

/-- In transaction mode a data port reads the byte `k` above RMA_ADDR (R111). -/
theorem rmaRead_data {s : State} (k : Fin 4) (ht : txnMode s = true) :
    rmaRead (BitVec.ofNat 8 (8 + k.val)) s = rmaReadByte (s.rmaAddr + BitVec.ofNat 32 k.val) s := by
  simp only [rmaRead, rmaPort_data, ht, if_true]

/-- Settles O43: the target's side of APERTURE decides between the 8-bit MMIO read and VRAM (R109). -/
theorem rmaInDataPorts : Obligations.RmaInDataPorts := by
  intro s k hd ht hk t
  have htarget : (s.rmaAddr + BitVec.ofNat 32 k).toNat = t := by simp [t, BitVec.toNat_add]
  have hexec := exec_rmaIn (BitVec.ofNat 8 (8 + k)) hd
  rw [rmaRead_data ⟨k, hk⟩ ht] at hexec
  refine ⟨fun hlt => ⟨_, _, exec_mmioRd8 _ hd, rfl, ?_⟩, fun hge => ?_⟩
  · rw [hexec, rmaReadByte, rmaTarget_of_lt (htarget ▸ hlt), htarget]; rfl
  · rw [hexec, rmaReadByte, rmaTarget_of_ge (htarget ▸ hge), htarget]
    simp only [ask_eq]
    rfl

/-! ## Trigger -/

/-- Trigger at data port `k` completes nothing and takes the count from `d` to `n` (R113). -/
def QuietCount (c : Config) (k : Fin 4) (d n : Fin 5) : Prop :=
  (c.rmaTrigger = .port0B ∧ k.val < 3 ∧ n = d) ∨ (c.rmaTrigger = .fourthByte ∧ d.val < 3 ∧ n.val = d.val + 1)

/-- Trigger at data port `k` completes a transaction and takes the count from `d` to `n` (R113). -/
def FinalCount (c : Config) (k : Fin 4) (d n : Fin 5) : Prop :=
  (c.rmaTrigger = .port0B ∧ k = 3 ∧ n = d) ∨ (c.rmaTrigger = .fourthByte ∧ 3 ≤ d.val ∧ n = 0)

theorem nextDcount_of_lt {d n : Fin 5} (hd : d.val < 3) (hn : n.val = d.val + 1) : nextDcount d = n := by
  rw [nextDcount, if_neg (by omega), ← hn, Fin.ofNat_val_eq_self]

theorem trigger_of_quietCount {s : State} {k : Fin 4} {n : Fin 5} (h : QuietCount s.cfg k s.rmaDcount n) :
    trigger k s = (false, { s with rmaDcount := n }) := by
  obtain ⟨hc, hk, rfl⟩ | ⟨hc, hcount, hn⟩ := h
  · have hk3 : k ≠ 3 := by rintro rfl; exact absurd hk (by decide)
    simp only [trigger, hc, decide_eq_false hk3]
  · simp only [trigger, hc, nextDcount_of_lt hcount hn, decide_eq_false (show ¬ 4 ≤ s.rmaDcount.val + 1 by omega)]

theorem trigger_of_finalCount {s : State} {k : Fin 4} {n : Fin 5} (h : FinalCount s.cfg k s.rmaDcount n) :
    trigger k s = (true, { s with rmaDcount := n }) := by
  obtain ⟨hc, rfl, rfl⟩ | ⟨hc, hcount, rfl⟩ := h
  · simp only [trigger, hc, decide_true]
  · have hfour : 4 ≤ s.rmaDcount.val + 1 := by omega
    simp only [trigger, hc, nextDcount, if_pos hfour, decide_eq_true hfour]

/-! ## RMA_OUT -/

/-- A byte taken at data port `k`, the count at `n`. -/
def countedByte (k : Fin 4) (b : Byte) (n : Fin 5) (s : State) : State := { rmaDataByte k b s with rmaDcount := n }

theorem rmaWrite_of_low {s : State} {p b : Byte} {k : Fin 4} (ht : txnMode s = true) (hp : p.toNat = k.val) :
    rmaWrite p b s = rmaAddrByte k b s := by
  simp only [rmaWrite, ht, if_true, rmaPort_of_low hp]

theorem rmaWrite_of_quietCount {s : State} {p b : Byte} {k : Fin 4} {n : Fin 5} (ht : txnMode s = true)
    (hp : p.toNat = 8 + k.val) (h : QuietCount s.cfg k s.rmaDcount n) : rmaWrite p b s = countedByte k b n s := by
  have htrigger := trigger_of_quietCount (s := rmaDataByte k b s) h
  simp only [rmaWrite, ht, if_true, rmaPort_of_data hp, htrigger, completeIf]
  rfl

theorem rmaWrite_of_finalCount {s : State} {p b : Byte} {k : Fin 4} {n : Fin 5} (ht : txnMode s = true)
    (hp : p.toNat = 8 + k.val) (h : FinalCount s.cfg k s.rmaDcount n) :
    rmaWrite p b s = rmaTxn (countedByte k b n s) := by
  have htrigger := trigger_of_finalCount (s := rmaDataByte k b s) h
  simp only [rmaWrite, ht, if_true, rmaPort_of_data hp, htrigger, completeIf]
  rfl

theorem rmaWrite_of_no_port {s : State} {p b : Byte} (h : txnMode s = false ∨ rmaPort p = .undefined) :
    rmaWrite p b s = s := by
  unfold rmaWrite
  obtain h | h := h
  · rw [if_neg (by simp [h])]
  · simp only [h, ite_self]

/-- Settles O45: an RMA_OUT that completes nothing stores at most its byte and the count (R112, R113). -/
theorem rmaOutWithoutTransaction : Obligations.RmaOutWithoutTransaction := by
  intro s p b hd
  refine ⟨fun h => ?_, fun k ht hp => ?_, fun k ht hp hk hc => ?_, fun k n ht hp hc hcount hn => ?_⟩
  · rw [exec_rmaOut p b hd, rmaWrite_of_no_port (h.imp id rmaPort_undefined)]; rfl
  · rw [exec_rmaOut p b hd, rmaWrite_of_low ht hp]; rfl
  · rw [exec_rmaOut p b hd, rmaWrite_of_quietCount ht hp (.inl ⟨hc, hk, rfl⟩)]; rfl
  · rw [exec_rmaOut p b hd, rmaWrite_of_quietCount ht hp (.inr ⟨hc, hcount, hn⟩)]; rfl

/-! ## RmaTxn -/

theorem rmaTxn_eq (s : State) :
    rmaTxn s =
      { rmaWriteWord s.rmaAddr s.rmaData s with
        rmaAddr := if autoIncMode s then s.rmaAddr + 4 else s.rmaAddr } := by
  have hmode : autoIncMode (rmaWriteWord s.rmaAddr s.rmaData s) = autoIncMode s := by simp [autoIncMode]
  have haddr := rmaWriteWord_rmaAddr s.rmaAddr s.rmaData s
  rw [rmaTxn, autoIncrement, hmode]
  generalize rmaWriteWord s.rmaAddr s.rmaData s = u at haddr
  rw [← haddr]
  split_ifs <;> rfl

/-- Settles O46: Trigger completes the transaction, whose word goes to the target's side of APERTURE (R109, R112 to R114). -/
theorem rmaTriggeringByteCompletesATransaction : Obligations.RmaTriggeringByteCompletesATransaction := by
  intro s k b n hd ht h data s1 after
  have hout : exec (.rmaOut (BitVec.ofNat 8 (8 + k.val)) b) s =
      .next ({ rmaWriteWord s.rmaAddr data s1 with rmaAddr := after }.respond .none) := by
    have hport : (BitVec.ofNat 8 (8 + k.val)).toNat = 8 + k.val := by
      rw [BitVec.toNat_ofNat, Nat.mod_eq_of_lt (by omega)]
    rw [exec_rmaOut _ b hd, rmaWrite_of_finalCount ht hport h, rmaTxn_eq]
    rfl
  refine ⟨fun hlt => ⟨_, exec_mmioWr32 _ (s := s1) hd data, ?_⟩, fun hge => ?_⟩
  · rw [hout, rmaWriteWord, rmaTarget_of_lt hlt]; rfl
  · rw [hout, rmaWriteWord, rmaTarget_of_ge hge]; rfl

/-! ## Four bytes in order -/

theorem setLane_four (w : Word) (b0 b1 b2 b3 : Byte) :
    setLane (setLane (setLane (setLane w 0 b0) 1 b1) 2 b2) 3 b3 = b3 ++ b2 ++ b1 ++ b0 := by
  apply BitVec.eq_of_getLsbD_eq
  intro i hi
  simp only [setLane_getLsbD _ _ _ hi, append_four_getLsbD]
  split_ifs <;> first | omega | (congr 1; omega)

theorem vector_set_four (v : Vector Byte 4) (b0 b1 b2 b3 : Byte) :
    (((v.set 0 b0).set 1 b1).set 2 b2).set 3 b3 = #v[b0, b1, b2, b3] := by
  refine Vector.ext fun i hi => ?_
  interval_cases i <;> simp

theorem respond_of_response {s : State} {r : Response} (h : s.response = r) : s.respond r = s := by
  rw [← h]; rfl

/-- The block takes RMA_OUT and the shifter is in transaction mode (R108, R120). -/
def Shifting (s : State) : Prop := s.dead = false ∧ txnMode s = true

/-- `s` with an address being shifted in. -/
def shiftedAddr (s : State) (a : Word) (v : Vector Byte 4) : State :=
  { s with rmaAddr := a, rmaSave := v, response := .none }

/-- `s` with data being shifted in and counted. -/
def shiftedData (s : State) (d : Word) (v : Vector Byte 4) (n : Fin 5) : State :=
  { s with rmaData := d, rmaSave := v, rmaDcount := n, response := .none }

section
variable {s : State} {b : Byte} {is : List Instr} (hs : Shifting s) (p : Byte) (k : Fin 4)
include hs

theorem execAll_rmaOut_low (hp : p.toNat = k.val) :
    execAll (.rmaOut p b :: is) s = execAll is (shiftedAddr s (setLane s.rmaAddr k.val b) (s.rmaSave.set k.val b)) := by
  rw [execAll, exec_rmaOut p b hs.1, rmaWrite_of_low hs.2 hp]
  rfl

theorem execAll_rmaOut_quiet (hp : p.toNat = 8 + k.val) {n : Fin 5} (h : QuietCount s.cfg k s.rmaDcount n) :
    execAll (.rmaOut p b :: is) s =
      execAll is (shiftedData s (setLane s.rmaData k.val b) (s.rmaSave.set k.val b) n) := by
  rw [execAll, exec_rmaOut p b hs.1, rmaWrite_of_quietCount hs.2 hp h]
  rfl

theorem execAll_rmaOut_low_shifted (a : Word) (v : Vector Byte 4) (hp : p.toNat = k.val) :
    execAll (.rmaOut p b :: is) (shiftedAddr s a v) = execAll is (shiftedAddr s (setLane a k.val b) (v.set k.val b)) :=
  execAll_rmaOut_low (s := shiftedAddr s a v) hs p k hp

theorem execAll_rmaOut_quiet_shifted (d : Word) (v : Vector Byte 4) (m : Fin 5) (hp : p.toNat = 8 + k.val) {n : Fin 5}
    (h : QuietCount s.cfg k m n) :
    execAll (.rmaOut p b :: is) (shiftedData s d v m) =
      execAll is (shiftedData s (setLane d k.val b) (v.set k.val b) n) :=
  execAll_rmaOut_quiet (s := shiftedData s d v m) hs p k hp h

theorem execAll_rmaOut_final_shifted (d : Word) (v : Vector Byte 4) (m : Fin 5) (hp : p.toNat = 8 + k.val) {n : Fin 5}
    (h : FinalCount s.cfg k m n) :
    execAll [.rmaOut p b] (shiftedData s d v m) =
      .next (rmaTxn (shiftedData s (setLane d k.val b) (v.set k.val b) n)) := by
  have hwrite : rmaWrite p b (shiftedData s d v m) = rmaTxn (shiftedData s (setLane d k.val b) (v.set k.val b) n) :=
    rmaWrite_of_finalCount (s := shiftedData s d v m) hs.2 hp h
  rw [execAll, exec_rmaOut (s := shiftedData s d v m) p b hs.1, hwrite]
  exact congrArg Host.Outcome.next (respond_of_response (rmaTxn_response _))

end

/-- From a count of 0 Trigger takes three bytes quietly and completes on the fourth, under either RMA_TRIGGER (R113). -/
theorem exists_counts (c : Config) :
    ∃ n1 n2 n3 : Fin 5, QuietCount c 0 0 n1 ∧ QuietCount c 1 n1 n2 ∧ QuietCount c 2 n2 n3 ∧ FinalCount c 3 n3 0 := by
  cases hc : c.rmaTrigger
  case port0B => refine ⟨0, 0, 0, ?_⟩; simp [QuietCount, FinalCount, hc]
  case fourthByte => refine ⟨1, 2, 3, ?_⟩; simp [QuietCount, FinalCount, hc]

/-- Settles O47: three bytes that complete nothing and a fourth that does, whichever way Trigger counts (R113). -/
theorem rmaInOrderBytesMakeOneTransaction : Obligations.RmaInOrderBytesMakeOneTransaction := by
  intro s b0 b1 b2 b3 hd ht
  have hs : Shifting s := ⟨hd, ht⟩
  refine ⟨?_, fun hcount => ?_⟩
  · rw [execAll_rmaOut_low hs 0 0 rfl, execAll_rmaOut_low_shifted hs 1 1 _ _ rfl,
      execAll_rmaOut_low_shifted hs 2 2 _ _ rfl, execAll_rmaOut_low_shifted hs 3 3 _ _ rfl, execAll]
    exact congrArg Host.Outcome.next (congrArg₂ (shiftedAddr s) (setLane_four ..) (vector_set_four ..))
  · obtain ⟨n1, n2, n3, h0, h1, h2, h3⟩ := exists_counts s.cfg
    have hzero : s.rmaDcount = 0 := Fin.ext hcount
    rw [execAll_rmaOut_quiet hs 8 0 rfl (hzero ▸ h0), execAll_rmaOut_quiet_shifted hs 9 1 _ _ _ rfl h1,
      execAll_rmaOut_quiet_shifted hs 0x0A 2 _ _ _ rfl h2, execAll_rmaOut_final_shifted hs 0x0B 3 _ _ _ rfl h3, ← hzero]
    exact congrArg (Host.Outcome.next ∘ rmaTxn)
      (congrArg₂ (fun d v => shiftedData s d v s.rmaDcount) (setLane_four ..) (vector_set_four ..))

end Sys2Proof.Machine
end
